-- ==== Sys2Proof/Word.lean ====
section
/-! DEFINITION. The word types of 00_scope.md R6: a byte is 8 bits, every value is unsigned, bit 0 is the
least significant bit. -/

namespace Sys2Proof

/-- A byte: 8 bits (00_scope.md R6). -/
abbrev Byte := BitVec 8

/-- A 16-bit word: tick counts, microseconds, the junk counter, checksums. -/
abbrev Half := BitVec 16

end Sys2Proof
end

