-- ==== Sys2Proof/Syntax.lean ====
section
/-! DEFINITION. The operations of 30_encoding.md R52, one constructor per row of the opcode table, and what one
clock cycle presents: the levels of the input pins (R49) and the three operations they encode (R53). -/

namespace Sys2Proof

/-- The three port groups, each with a word format of its own (30_encoding.md R52). -/
inductive Port where
  /-- Format R: the reset pin, 1 bit. -/
  | reset
  /-- Format P: the producer port, 9 bits. -/
  | producer
  /-- Format C: the consumer port, 26 bits. -/
  | consumer
deriving DecidableEq, Repr

/-- The operations, one constructor per row of the opcode table (30_encoding.md R52, R58). The unused bits of a
word are ignored (R55), so no constructor carries them. -/
inductive Instr where
  /-- RST: reset (70_reset_and_hazards.md R130). -/
  | rst
  /-- NORST: no reset; the producer and consumer ports are obeyed (R53). -/
  | norst
  /-- RXBYTE: the received byte `c` (41_frame_assembler.md R75). -/
  | rxbyte (c : Byte)
  /-- PIDLE: no producer operation (R52). -/
  | pidle
  /-- CIDLE: no consumer operation (R52). -/
  | cidle
  /-- POLL: has a new valid frame completed? (42_consumer_ops.md R95). -/
  | poll
  /-- RDCH: read the channel of remapped index `r`, with the neutral value `mid` (42_consumer_ops.md R99). -/
  | rdch (r : Byte) (mid : Half)
  /-- CRSV: the reserved consumer code, which behaves as CIDLE (R55). -/
  | crsv
deriving DecidableEq, Repr

/-- The levels of the input pins in one clock cycle (30_encoding.md R49). -/
structure Pins where
  rst : BitVec 1
  rxValid : BitVec 1
  rxData : Byte
  cOp : BitVec 2
  cIdx : Byte
  cMid : Half
deriving DecidableEq, Repr

/-- The three operations one clock cycle presents, one per port (30_encoding.md R53). -/
structure Cycle where
  reset : Instr
  producer : Instr
  consumer : Instr
deriving DecidableEq, Repr

end Sys2Proof
end

