-- ==== Sys2Proof/WellFormed.lean ====
section
/-! DEFINITION. Well-formedness. The operand types leave no ill-formed operation (30_encoding.md R54: every byte
is an index, every 16-bit value a neutral value); what can be ill-formed is a cycle that presents an operation on
a port that has no code for it (R52, 60_exceptions.md R117). -/

namespace Sys2Proof

/-- The port whose format encodes the operation (30_encoding.md R52). -/
def Instr.port : Instr → Port
  | .rst => .reset
  | .norst => .reset
  | .rxbyte _ => .producer
  | .pidle => .producer
  | .cidle => .consumer
  | .poll => .consumer
  | .rdch _ _ => .consumer
  | .crsv => .consumer

/-- The operation may be presented on the port: the port's format has a code for it (R52, R117). -/
def Instr.fits (p : Port) (i : Instr) : Bool := decide (i.port = p)

/-- Each of a cycle's three operations is one its port can encode (R53, R117). -/
def Cycle.wellFormed (k : Cycle) : Bool :=
  k.reset.fits .reset && k.producer.fits .producer && k.consumer.fits .consumer

end Sys2Proof
end

