-- ==== Sys2Proof/Decode.lean ====
section
/-! DEFINITION. The operation encoding of 30_encoding.md R52: a total decoder for each port's word, the same
decoder over bytes (which rejects by name what is no word of a port), the encoder, the opcode table of R58 as a
list of rows, and the pins' view of the three words. -/

namespace Sys2Proof

/-- The width of a port's word in bits (30_encoding.md R52). -/
abbrev Port.width : Port → Nat
  | .reset => 1
  | .producer => 9
  | .consumer => 26

/-! ## Decoding a port's word -/

/-- Format R: `1` is RST, `0` is NORST (30_encoding.md R52). -/
def decodeReset (w : BitVec 1) : Instr := if w = 1#1 then .rst else .norst

/-- Format P: `1dddddddd` is RXBYTE, `0uuuuuuuu` is PIDLE (30_encoding.md R52). -/
def decodeProducer (w : BitVec 9) : Instr :=
  if w.extractLsb' 8 1 = 1#1 then .rxbyte (w.extractLsb' 0 8) else .pidle

/-- Format C: `c_op` is bits 25 to 24, `c_idx` bits 23 to 16, `c_mid` bits 15 to 0 (30_encoding.md R52). -/
def decodeConsumer (w : BitVec 26) : Instr :=
  if w.extractLsb' 24 2 = 0#2 then .cidle
  else if w.extractLsb' 24 2 = 1#2 then .poll
  else if w.extractLsb' 24 2 = 2#2 then .rdch (w.extractLsb' 16 8) (w.extractLsb' 0 16)
  else .crsv

/-- The operation a port's word stands for, the word given as a number below `2 ^ width`. -/
def decodePort (p : Port) (w : Nat) : Instr :=
  match p with
  | .reset => decodeReset (BitVec.ofNat 1 w)
  | .producer => decodeProducer (BitVec.ofNat 9 w)
  | .consumer => decodeConsumer (BitVec.ofNat 26 w)

/-! ## Decoding bytes

A port's word is carried by the least number of whole bytes, least significant byte first; the bits above the
port's width are no wires of the port, and a carrier that sets one is rejected. DESIGN CHOICE, safe: the spec's
ports have no byte form (log 11). -/

/-- Why bytes are no word of a port. Both are the model's own rejections of a carrier (safe: no word of a port's
width is ever rejected, 30_encoding.md R53). -/
inductive DecodeReject where
  /-- No port's word has this many bytes. -/
  | byteCount (n : Nat)
  /-- A bit above the port's width is set. -/
  | wideWord (p : Port) (w : Nat)
deriving DecidableEq, Repr

/-- The number the bytes carry, least significant byte first. -/
def carried : List Byte → Nat
  | [] => 0
  | b :: bs => b.toNat + 256 * carried bs

/-- The port whose word takes `n` bytes. -/
def portOfBytes : Nat → Option Port
  | 1 => some .reset
  | 2 => some .producer
  | 4 => some .consumer
  | _ => none

/-- The decoder over bytes: the number of bytes selects the port, a set bit above the port's width is rejected. -/
def decode (bytes : List Byte) : Except DecodeReject Instr :=
  match portOfBytes bytes.length with
  | none => .error (.byteCount bytes.length)
  | some p =>
    if carried bytes < 2 ^ p.width then .ok (decodePort p (carried bytes))
    else .error (.wideWord p (carried bytes))

/-! ## Encoding -/

/-- The operation's word, its unused bits 0 (30_encoding.md R52). -/
def encodeWord : Instr → Nat
  | .rst => (1#1).toNat
  | .norst => (0#1).toNat
  | .rxbyte c => (1#1 ++ c).toNat
  | .pidle => (0#1 ++ 0#8).toNat
  | .cidle => (0#2 ++ 0#8 ++ 0#16).toNat
  | .poll => (1#2 ++ 0#8 ++ 0#16).toNat
  | .rdch r mid => (2#2 ++ r ++ mid).toNat
  | .crsv => (3#2 ++ 0#8 ++ 0#16).toNat

/-- The low `n` bytes of a number, least significant byte first. -/
def carrier : Nat → Nat → List Byte
  | 0, _ => []
  | n + 1, w => BitVec.ofNat 8 w :: carrier n (w / 256)

/-- How many bytes carry a port's word. -/
def Port.bytes : Port → Nat
  | .reset => 1
  | .producer => 2
  | .consumer => 4

/-- The encoder: the bytes of the operation's word. -/
def encode (i : Instr) : List Byte := carrier i.port.bytes (encodeWord i)

/-! ## The opcode table (30_encoding.md R58) -/

/-- One row of the opcode table: a word `w` of the port selects it when `w AND mask = value` (R58). -/
structure OpcodeRow where
  mnemonic : String
  port : Port
  value : Nat
  mask : Nat
deriving DecidableEq, Repr

/-- The rows of the opcode table, in its order (R58). -/
def opcodeRows : List OpcodeRow :=
  [ ⟨"RST", .reset, 0x1, 0x1⟩,
    ⟨"NORST", .reset, 0x0, 0x1⟩,
    ⟨"RXBYTE", .producer, 0x100, 0x100⟩,
    ⟨"PIDLE", .producer, 0x000, 0x100⟩,
    ⟨"CIDLE", .consumer, 0x0000000, 0x3000000⟩,
    ⟨"POLL", .consumer, 0x1000000, 0x3000000⟩,
    ⟨"RDCH", .consumer, 0x2000000, 0x3000000⟩,
    ⟨"CRSV", .consumer, 0x3000000, 0x3000000⟩ ]

/-- The word selects the row (R58). -/
def OpcodeRow.selects (row : OpcodeRow) (p : Port) (w : Nat) : Bool :=
  decide (row.port = p) && decide (w &&& row.mask = row.value)

/-- The operation's mnemonic in the opcode table. -/
def Instr.mnemonic : Instr → String
  | .rst => "RST"
  | .norst => "NORST"
  | .rxbyte _ => "RXBYTE"
  | .pidle => "PIDLE"
  | .cidle => "CIDLE"
  | .poll => "POLL"
  | .rdch _ _ => "RDCH"
  | .crsv => "CRSV"

/-! ## The pins -/

/-- Format R's word: `rst` (R52). -/
abbrev Pins.resetWord (x : Pins) : BitVec 1 := x.rst

/-- Format P's word: `rx_valid ++ rx_data` (R52). -/
abbrev Pins.producerWord (x : Pins) : BitVec 9 := x.rxValid ++ x.rxData

/-- Format C's word: `c_op ++ c_idx ++ c_mid` (R52). -/
abbrev Pins.consumerWord (x : Pins) : BitVec 26 := x.cOp ++ x.cIdx ++ x.cMid

/-- The pins that carry the three words. -/
def Pins.ofWords (r : BitVec 1) (p : BitVec 9) (c : BitVec 26) : Pins :=
  { rst := r
    rxValid := p.extractLsb' 8 1
    rxData := p.extractLsb' 0 8
    cOp := c.extractLsb' 24 2
    cIdx := c.extractLsb' 16 8
    cMid := c.extractLsb' 0 16 }

/-- Pins that nobody drives: every level 0, so NORST, PIDLE and CIDLE (92_eei_decisions.md D4: 00 is idle so that
an undriven port does nothing). -/
def Pins.idle : Pins := Pins.ofWords 0 0 0

/-- The pins with the word on the named port and the other two ports undriven. -/
def Pins.onPort (p : Port) (w : Nat) : Pins :=
  match p with
  | .reset => Pins.ofWords (BitVec.ofNat 1 w) 0 0
  | .producer => Pins.ofWords 0 (BitVec.ofNat 9 w) 0
  | .consumer => Pins.ofWords 0 0 (BitVec.ofNat 26 w)

/-- The three operations the pins present (30_encoding.md R53). -/
def Pins.decode (x : Pins) : Cycle :=
  { reset := decodeReset x.resetWord
    producer := decodeProducer x.producerWord
    consumer := decodeConsumer x.consumerWord }

/-- The pins that present a cycle's three operations, unused bits 0. -/
def Cycle.encode (k : Cycle) : Pins :=
  Pins.ofWords (BitVec.ofNat 1 (encodeWord k.reset)) (BitVec.ofNat 9 (encodeWord k.producer))
    (BitVec.ofNat 26 (encodeWord k.consumer))

/-! ## The host's view -/

/-- The operation the decoder reads from a word of `nbits` bits (whole bytes), the word laid out as bytes, least
significant byte first. -/
def decodeTableWord (nbits w : Nat) : Option Instr :=
  match Sys2Proof.decode (carrier ((nbits + 7) / 8) w) with
  | .ok i => some i
  | .error _ => none

end Sys2Proof
end

