-- ==== Sys2Proof/Config.lean ====
section
/-! DEFINITION. The implementation parameters of 00_scope.md R5. The values the spec fixes are constants; the two
open parameters that rules read are the record `Config`, one value per built block; the three open parameters
that no rule reads are bodiless constants. -/

namespace Sys2Proof

/-- The open parameters that RXBYTE reads (92_eei_decisions.md D1, D2). They are fixed per built block
(70_reset_and_hazards.md R142): State carries the record and no operation changes it (log 3). -/
structure Config where
  /-- `START_MARKER`, the frame-start marker (00_scope.md R5, D1). -/
  startMarker : Byte
  /-- `RC_TYPE`, the RC-data packet type code (00_scope.md R5, D2). -/
  rcType : Byte
deriving DecidableEq, Repr

/-- PRESUMED, unsafe for a claim that rests on the two values: the spec's own defaults, which it marks as general
knowledge (00_scope.md R5, log 1 and log 2). -/
def Config.default : Config := { startMarker := 0x3E, rcType := 0x31 }

/-- `CAP` and `MAX_LEN`: the frame buffer's capacity in bytes and the maximum frame length (R5). -/
abbrev Config.cap : Nat := 70

/-- `MIN_LEN`: the declared length an attempt starts with (R5). -/
abbrev Config.minLen : Nat := 7

/-- The least declared length the cursor can still reach at the length byte (41_frame_assembler.md R81, D9). -/
abbrev Config.leastLen : Nat := 3

/-- `LEN_POS`: the position of the declared-length byte (R5). -/
abbrev Config.lenPos : Nat := 2

/-- `TYPE_POS`: the position of the packet-type byte (R5). -/
abbrev Config.typePos : Nat := 4

/-- `PAYLOAD_BASE`: the position of channel 0's low byte (R5). -/
abbrev Config.payloadBase : Nat := 6

/-- `NCHAN`: the number of channels (R5). -/
abbrev Config.channels : Nat := 16

/-- `JUNK_THRESHOLD`: the junk count that must be exceeded for a rate toggle (R5). -/
abbrev Config.junkThreshold : Nat := 1000

/-- `CRC_INIT`: the initial value of the checksum fold (R5). -/
abbrev Config.crcInit : Half := 0x0000

/-- The constant output `nchan`, 5 bits, always 16 (30_encoding.md R49, R50; D26). -/
abbrev Config.nchan : BitVec 5 := 16

/-- `BAUD_SLOW`, OPEN (D18): a free value, read by no rule (log 8). -/
opaque Config.baudSlow : Nat

/-- `BAUD_FAST`, OPEN (D18): a free value, read by no rule (log 8). -/
opaque Config.baudFast : Nat

/-- `INITIAL_RATE`, OPEN (D18): whether the line is opened at the fast rate; a free value, read by no rule (log 8). -/
opaque Config.initialRateIsFast : Bool

end Sys2Proof
end

