-- ==== Sys2Proof/Machine/Checksum.lean ====
section
/-! DEFINITION. The Checksum Engine: the per-byte update CRCUPD and the fold CRCFOLD (40_checksum.md R66, R68). -/

namespace Sys2Proof.Machine

/-- CRCUPD, transcribed with every width explicit (40_checksum.md R66): `d1 << 4` loses the bits above bit 7,
`d2 << 3` is formed in 16 bits. -/
def crcUpd (crc : Half) (data : Byte) : Half :=
  let d1 : BitVec 8 := data ^^^ crc.extractLsb' 0 8
  let d2 : BitVec 8 := d1 ^^^ (d1 <<< 4)
  let t1 : BitVec 16 := d2 ++ crc.extractLsb' 8 8
  let t2 : BitVec 16 := (d2.extractLsb' 4 4).setWidth 16
  let t3 : BitVec 16 := d2.setWidth 16 <<< 3
  t1 ^^^ t2 ^^^ t3

/-- CRCFOLD over a byte sequence: the update applied left to right from 0x0000 (40_checksum.md R68). -/
def crcFold (bytes : List Byte) : Half := bytes.foldl crcUpd Config.crcInit

/-- One step of the bit-serial procedure of 40_checksum.md R73, an aid for checking CRCUPD, never used by it. -/
def crcSerialStep (x : Half) : Half := if x.getLsbD 0 then (x >>> 1) ^^^ 0x8408#16 else x >>> 1

/-- `n` steps of the bit-serial procedure (40_checksum.md R73). -/
def crcSerialSteps : Nat → Half → Half
  | 0, x => x
  | n + 1, x => crcSerialSteps n (crcSerialStep x)

/-- The bit-serial form of the update: eight steps from `crc XOR data` (40_checksum.md R73). -/
def crcSerial (crc : Half) (data : Byte) : Half := crcSerialSteps 8 (crc ^^^ data.setWidth 16)

end Sys2Proof.Machine
end

