-- ==== Sys2Proof/Machine/State.lean ====
section
/-! DEFINITION. The state: 10_state.md R10's registers and buffer, the output pins of 30_encoding.md R49, and the
model's own three fields (the outcome label, the block's parameters, the levels still to arrive on the input
pins). Plain data throughout. -/

namespace Sys2Proof.Machine

/-- The frame buffer BUF as (position, byte) pairs in one canonical form: positions strictly rising and below 70,
no entry 0x00, since an unlisted position reads as 0x00 (Memory.read, Memory.wf; 10_state.md R22). -/
abbrev Memory := List Host.Cell

/-- The reject events of 60_exceptions.md R110. -/
inductive Reject where
  /-- `E_JUNK`: a byte in Seeking that is not the start marker. -/
  | junk
  /-- `E_OVERSIZE`: a declared length above 70. -/
  | oversize
  /-- `E_SHORT`: a declared length below 3. -/
  | short
  /-- `E_TYPE`: a packet type that is not the RC-data type. -/
  | packetType
  /-- `E_CRC`: a completed frame whose checksum fold is not zero. -/
  | checksum
deriving DecidableEq, Repr

/-- The outcome labels of RXBYTE (00_scope.md R8, 60_exceptions.md R110). -/
inductive Label where
  /-- `STORED`: the byte was stored and the frame is not complete. -/
  | stored
  /-- `ACCEPT`: the frame is complete and its checksum fold is zero. -/
  | accept
  /-- One of the five reject events. -/
  | rejected (e : Reject)
deriving DecidableEq, Repr

/-- Why the machine stops. The spec's block never faults (70_reset_and_hazards.md R142). -/
inductive Fault where
  /-- Raised by RXBYTE in Assembling with POS above 69: the store would go to a position that does not exist
  (10_state.md R21 item 7, R22). Safe: no state that satisfies R21 raises it (log 5). -/
  | bufferOverrun (position : Nat)
deriving DecidableEq, Repr

/-- Why an operation has no meaning. Every operation has one, so none is ever refused. -/
inductive Refusal where
  /-- For an arm of exec with no meaning yet; raised by none. Safe: the machine stops. -/
  | notModelled (mnemonic : String)
deriving DecidableEq, Repr

/-- The whole state of the block, and the levels its input pins are still to receive. -/
structure State where
  /-- BUF[0..69], the frame buffer (10_state.md R22). -/
  buf : Memory
  /-- POS, the assembly cursor (10_state.md R13). -/
  pos : BitVec 7
  /-- LEN, the declared frame length (10_state.md R12). -/
  len : BitVec 8
  /-- BEGUN: false is Seeking, true is Assembling (10_state.md R16). -/
  begun : Bool
  /-- DONE, the completion flag (10_state.md R17). -/
  done : Bool
  /-- BAUDOK, the baud-valid flag (10_state.md R18). -/
  baudok : Bool
  /-- JUNK, the junk counter, saturating (10_state.md R14). -/
  junk : BitVec 16
  /-- The output pin c_ready (30_encoding.md R49). -/
  cReady : Bool
  /-- The output pin c_fs_clear (30_encoding.md R49). -/
  cFsClear : Bool
  /-- The output pin c_baud_toggle (30_encoding.md R49). -/
  cBaudToggle : Bool
  /-- The output pins c_val (30_encoding.md R49). -/
  cVal : BitVec 16
  /-- The ghost outcome label of the latest cycle's RXBYTE, none when there was none (00_scope.md R8, log 7). -/
  label : Option Label
  /-- The block's parameters, which no operation changes (R142, log 3). -/
  cfg : Config
  /-- The levels of the input pins in the cycles to come, the next cycle first (log 4). -/
  inputs : List Pins
deriving DecidableEq, Repr

/-- The post-RST state of a block built with the given parameters (70_reset_and_hazards.md R132, R133), with
nothing presented on its pins. -/
def State.resetWith (cfg : Config) : State :=
  { buf := [], pos := 0, len := 0, begun := false, done := false, baudok := false, junk := 0
    cReady := false, cFsClear := false, cBaudToggle := false, cVal := 0
    label := none, cfg := cfg, inputs := [] }

/-- The machine right after reset (R132, R133), built with the spec's default parameters (log 1, log 2). -/
def State.reset : State := State.resetWith Config.default

end Sys2Proof.Machine
end

