-- ==== Sys2Proof/Machine/Ops.lean ====
section
/-! DEFINITION. The named operations over the buffer, the registers and the output pins, among them the taking of
a reject event (60_exceptions.md R112) and the start of an attempt, which is what resumes after one (R116). -/

namespace Sys2Proof.Machine

/-- `sat16(n) = min(n, 65535)` (00_scope.md R6). -/
def sat16 (n : Nat) : BitVec 16 := BitVec.ofNat 16 (min n 65535)

/-! ## The frame buffer -/

/-- What an unlisted position reads as: the reset value 0x00 (70_reset_and_hazards.md R132). -/
abbrev Memory.background : Byte := 0x00

/-- `BUF[a]` (00_scope.md R7). -/
def Memory.read : Memory → Nat → Byte
  | [], _ => Memory.background
  | (b, v) :: m, a => if a = b then v else Memory.read m a

/-- `BUF[a] <- v` (00_scope.md R7), keeping the canonical form. -/
def Memory.write : Memory → Nat → Byte → Memory
  | [], a, v => if v = Memory.background then [] else [(a, v)]
  | (b, w) :: m, a, v =>
    if a < b then (if v = Memory.background then (b, w) :: m else (a, v) :: (b, w) :: m)
    else if a = b then (if v = Memory.background then m else (a, v) :: m)
    else (b, w) :: Memory.write m a v

/-- The canonical form from position `lo` up: positions strictly rising, inside the buffer, no entry 0x00. -/
def Memory.wfFrom : Nat → Memory → Bool
  | _, [] => true
  | lo, (a, v) :: m =>
    decide (lo ≤ a) && decide (a < Config.cap) && decide (v ≠ Memory.background) && Memory.wfFrom (a + 1) m

/-- The buffer is in canonical form. -/
def Memory.wf (m : Memory) : Bool := Memory.wfFrom 0 m

/-- `BufRead(a, 2) = BUF[a+1] ++ BUF[a]`, little-endian (20_memory.md R31). -/
def Memory.readPair (m : Memory) (a : Nat) : Half := Memory.read m (a + 1) ++ Memory.read m a

/-- The bytes at positions `0` to `n - 1`, in ascending order (20_memory.md R35). -/
def Memory.firstBytes (m : Memory) (n : Nat) : List Byte := (List.range n).map (Memory.read m)

/-- `CRCFOLD(BUF, n)`, the fold over positions `0` to `n - 1` (40_checksum.md R68, R69). -/
def Memory.fold (m : Memory) (n : Nat) : Half := crcFold (Memory.firstBytes m n)

/-- `BUF[POS] <- c; POS <- POS + 1` (41_frame_assembler.md R79, R91), for a cursor inside the buffer. -/
def storeAndAdvance (c : Byte) (s : State) : State :=
  { s with buf := Memory.write s.buf s.pos.toNat c, pos := s.pos + 1 }

/-- The store of a received byte; a cursor above 69 names no position of the buffer, and the store stops by name
(10_state.md R21 item 7). -/
def storeByte (c : Byte) (s : State) : Except Fault State :=
  if s.pos.toNat < Config.cap then .ok (storeAndAdvance c s) else .error (.bufferOverrun s.pos.toNat)

/-! ## Taking a reject event, and resuming after one -/

/-- JUNK after a reject event: one more for a junk byte, LEN more for a checksum failure, else unchanged
(60_exceptions.md R112). -/
def rejectedJunk (e : Reject) (s : State) : BitVec 16 :=
  match e with
  | .junk => sat16 (s.junk.toNat + 1)
  | .checksum => sat16 (s.junk.toNat + s.len.toNat)
  | .oversize => s.junk
  | .short => s.junk
  | .packetType => s.junk

/-- `reject <Event>` (60_exceptions.md R112, R115): back to Seeking, JUNK updated, the event recorded as the
operation's label; nothing else is saved and control goes nowhere. -/
def reject (e : Reject) (s : State) : State :=
  { s with begun := false, junk := rejectedJunk e s, label := some (.rejected e) }

/-- A start marker seen in Seeking begins an attempt (41_frame_assembler.md R78); it is the only way out of
Seeking, and so the resumption after every reject event (60_exceptions.md R116). -/
def beginAttempt (s : State) : State :=
  { s with begun := true, pos := 0, len := BitVec.ofNat 8 Config.minLen, done := false }

/-- A completed frame with a zero fold is accepted (41_frame_assembler.md R84). -/
def acceptFrame (s : State) : State :=
  { s with begun := false, baudok := true, done := true, label := some .accept }

/-! ## The output pins -/

/-- Put a consumer operation's results on the output pins (30_encoding.md R50). -/
def driveOutputs (ready fsClear baudToggle : Bool) (val : Half) (s : State) : State :=
  { s with cReady := ready, cFsClear := fsClear, cBaudToggle := baudToggle, cVal := val }

/-- The outputs' idle values (30_encoding.md R50). -/
def idleOutputs (s : State) : State := driveOutputs false false false 0 s

/-- The output pins of 30_encoding.md R49. -/
structure Outputs where
  ready : Bool
  fsClear : Bool
  baudToggle : Bool
  val : Half
  nchan : BitVec 5
deriving DecidableEq, Repr

/-- What the block's output pins show; `nchan` is 16 always (30_encoding.md R50). -/
def State.outputs (s : State) : Outputs :=
  { ready := s.cReady, fsClear := s.cFsClear, baudToggle := s.cBaudToggle, val := s.cVal, nchan := Config.nchan }

/-! ## Sequencing -/

/-- Perform an operation on the state another left (20_memory.md R39); a stop ends the sequence. -/
def andThen (o : Host.Outcome State Fault Refusal) (f : State → Host.Outcome State Fault Refusal) :
    Host.Outcome State Fault Refusal :=
  match o with
  | .next s => f s
  | .fault r => .fault r
  | .refused r => .refused r

end Sys2Proof.Machine
end

