-- ==== Sys2Proof/Machine/Flags.lean ====
section
/-! DEFINITION. The conditions the operations test. The block has no arithmetic flags (10_state.md R19); its
flags BEGUN, DONE and BAUDOK are written by the operations of Machine/Ops.lean. -/

namespace Sys2Proof.Machine

/-- The completion test `POS = LEN` (41_frame_assembler.md R83). -/
def frameComplete (s : State) : Bool := decide (s.pos.toNat = s.len.toNat)

/-- The validity test `CRCFOLD(BUF, LEN) = 0x0000` (40_checksum.md R69). -/
def frameValid (s : State) : Bool := decide (Memory.fold s.buf s.len.toNat = 0x0000)

/-- The rate toggle is due: `BAUDOK = 0 and JUNK > 1000`, strictly (42_consumer_ops.md R98). -/
def toggleDue (s : State) : Bool := !s.baudok && decide (Config.junkThreshold < s.junk.toNat)

end Sys2Proof.Machine
end

