-- ==== Sys2Proof/Machine/Operands.lean ====
section
/-! DEFINITION. Operand assembly (30_encoding.md R54) and the one addressing mode of RDCH (42_consumer_ops.md
R104). The received byte and the neutral value are used as they arrive and need no assembly. -/

namespace Sys2Proof.Machine

/-- The remapped index names a channel: an unsigned comparison of all 8 bits with 16 (42_consumer_ops.md R101). -/
def channelInRange (r : Byte) : Bool := decide (r.toNat < Config.channels)

/-- `a = 6 + 2 * r`, 7 bits: the position of the channel's low byte (42_consumer_ops.md R100, R104). -/
def channelPosition (r : Byte) : BitVec 7 := BitVec.ofNat 7 Config.payloadBase + (r.setWidth 7 <<< 1)

/-- The channel's tick count, low byte first (20_memory.md R31, R33). -/
def channelTicks (s : State) (r : Byte) : Half := Memory.readPair s.buf (channelPosition r).toNat

/-- Ticks to whole microseconds: add 4 in 17 bits, divide by 8 (42_consumer_ops.md R100, R103). -/
def ticksToMicros (ticks : Half) : Half := ((ticks.setWidth 17 + 4) / 8).setWidth 16

end Sys2Proof.Machine
end

