-- ==== Sys2Proof/Machine/Consumer.lean ====
section
/-! DEFINITION. The operations of format C: CIDLE, POLL, RDCH and the reserved code (42_consumer_ops.md,
30_encoding.md R50, R55). -/

namespace Sys2Proof.Machine

/-- CIDLE: no consumer operation; the outputs take their idle values (30_encoding.md R50). -/
def execCidle (s : State) : Host.Outcome State Fault Refusal := .next (idleOutputs s)

/-- The state POLL leaves but for the output pins: DONE cleared and, when a toggle is due, JUNK cleared and the
assembler back in Seeking (42_consumer_ops.md R96, R98). -/
def pollState (s : State) : State :=
  if toggleDue s then { s with done := false, junk := 0, begun := false } else { s with done := false }

/-- POLL (42_consumer_ops.md R96): read and clear DONE in one step, `fs_clear` equal to `ready` (R97), the junk
threshold check (R98). -/
def execPoll (s : State) : Host.Outcome State Fault Refusal :=
  .next (driveOutputs s.done s.done (toggleDue s) 0 (pollState s))

/-- The value RDCH answers: `mid` for an index out of range or while no frame was ever accepted (42_consumer_ops.md
R101), else the channel in whole microseconds (R100). -/
def channelValue (r : Byte) (mid : Half) (s : State) : Half :=
  if !channelInRange r || !s.baudok then mid else ticksToMicros (channelTicks s r)

/-- RDCH(r, mid) (42_consumer_ops.md R100): the value on `c_val`, no state changed. -/
def execRdch (r : Byte) (mid : Half) (s : State) : Host.Outcome State Fault Refusal :=
  .next (driveOutputs false false false (channelValue r mid s) s)

/-- CRSV, the reserved code: no operation, idle outputs (30_encoding.md R55). -/
def execCrsv (s : State) : Host.Outcome State Fault Refusal := .next (idleOutputs s)

end Sys2Proof.Machine
end

