-- ==== Sys2Proof/Machine/Producer.lean ====
section
/-! DEFINITION. The operations of format P: RXBYTE, the whole frame assembler (41_frame_assembler.md R76), and
PIDLE. -/

namespace Sys2Proof.Machine

/-- The completion step of RXBYTE, after the store and after the aborts have passed (41_frame_assembler.md R83
to R85). -/
def completeFrame (s : State) : State :=
  if frameComplete s then
    if frameValid s then acceptFrame s else reject .checksum s
  else { s with label := some .stored }

/-- The length byte: `LEN <- c`, the oversize test, the short test, completion (41_frame_assembler.md R80, R81,
R86). -/
def takeLength (c : Byte) (s : State) : State :=
  let s1 := { s with len := c }
  if Config.cap < c.toNat then reject .oversize s1
  else if c.toNat < Config.leastLen then reject .short s1
  else completeFrame s1

/-- The checks on a byte that was stored at position `p`, in the fixed order of 41_frame_assembler.md R86. -/
def checkStored (p : Nat) (c : Byte) (s : State) : State :=
  if p = Config.lenPos then takeLength c s
  else if p = Config.typePos ∧ c ≠ s.cfg.rcType then reject .packetType s
  else completeFrame s

/-- RXBYTE in Assembling: the unconditional store, then the checks for that position (41_frame_assembler.md R76,
R79). -/
def assemble (c : Byte) (s : State) : Host.Outcome State Fault Refusal :=
  match storeByte c s with
  | .ok s1 => .next (checkStored s.pos.toNat c s1)
  | .error f => .fault f

/-- RXBYTE(c) (41_frame_assembler.md R76): in Seeking a start marker begins an attempt and falls through to the
store, any other byte is junk (R77, R78); in Assembling a start marker is ordinary data (R87). -/
def execRxbyte (c : Byte) (s : State) : Host.Outcome State Fault Refusal :=
  if s.begun then assemble c s
  else if c = s.cfg.startMarker then assemble c (beginAttempt s)
  else .next (reject .junk s)

/-- PIDLE: no producer operation, so no outcome label this cycle; nothing else changes (30_encoding.md R52). -/
def execPidle (s : State) : Host.Outcome State Fault Refusal := .next { s with label := none }

end Sys2Proof.Machine
end

