-- ==== Sys2Proof/Machine/ResetPort.lean ====
section
/-! DEFINITION. The operations of format R: RST and NORST (70_reset_and_hazards.md R130 to R133). -/

namespace Sys2Proof.Machine

/-- RST (70_reset_and_hazards.md R130): every buffer byte and every register 0, the outputs idle (R131, R133).
The parameters are fixed per block and what the environment will put on the pins is not the block's (R142). -/
def execRst (s : State) : Host.Outcome State Fault Refusal :=
  .next { State.resetWith s.cfg with inputs := s.inputs }

/-- NORST: no reset this cycle; nothing changes (30_encoding.md R52). -/
def execNorst (s : State) : Host.Outcome State Fault Refusal := .next s

end Sys2Proof.Machine
end

