-- ==== Sys2Proof/Machine/Dispatch.lean ====
section
/-! DEFINITION. The dispatch: one arm per operation. -/

namespace Sys2Proof.Machine

def exec (i : Instr) (s : State) : Host.Outcome State Fault Refusal :=
  match i with
  | .rst => Sys2Proof.Machine.execRst s
  | .norst => Sys2Proof.Machine.execNorst s
  | .rxbyte c => Sys2Proof.Machine.execRxbyte c s
  | .pidle => Sys2Proof.Machine.execPidle s
  | .cidle => Sys2Proof.Machine.execCidle s
  | .poll => Sys2Proof.Machine.execPoll s
  | .rdch r mid => Sys2Proof.Machine.execRdch r mid s
  | .crsv => Sys2Proof.Machine.execCrsv s

end Sys2Proof.Machine
end

