-- ==== Sys2Proof/Machine/CycleRun.lean ====
section
/-! DEFINITION. One clock cycle: which levels the pins have, and the order of the cycle's operations
(30_encoding.md R53, 20_memory.md R40). -/

namespace Sys2Proof.Machine

/-- The pins' levels in the coming cycle; undriven when the environment presents nothing (log 4). -/
def nextPins (s : State) : Pins := s.inputs.headD Pins.idle

/-- The state with the coming cycle's levels taken from the pins. -/
def takePins (s : State) : State := { s with inputs := s.inputs.tail }

/-- The order within a cycle (30_encoding.md R53, 70_reset_and_hazards.md R131): RST overrides both ports;
otherwise the producer's operation, then the consumer's on the state it left. -/
def runCycle (k : Cycle) (s : State) : Host.Outcome State Fault Refusal :=
  if k.reset = .rst then exec .rst s
  else andThen (exec k.reset s) (fun s1 => andThen (exec k.producer s1) (exec k.consumer))

end Sys2Proof.Machine
end

