-- ==== Sys2Proof/Machine/Step.lean ====
section
/-! DEFINITION. One step of the machine: one clock cycle (30_encoding.md R49, R53). -/

namespace Sys2Proof.Machine

/-- One clock cycle: the pins' levels are taken, decoded, and their operations performed in order (R53). -/
def step (s : State) : Host.Outcome State Fault Refusal := runCycle (nextPins s).decode (takePins s)

/-- The state whose coming cycle presents exactly the word the host numbers (`nbits` selects the port), the other
two ports undriven; the state itself when the word is no word of a port. -/
def State.withFetchWord (s : State) (nbits w : Nat) : State :=
  match decodeTableWord nbits w with
  | some i => { s with inputs := Pins.onPort i.port w :: s.inputs.tail }
  | none => s

end Sys2Proof.Machine
end

