-- ==== Sys2Proof/Machine/Trace.lean ====
section
/-! DEFINITION. Runs of operations in their total order (20_memory.md R39) and the trace syntax of 30_encoding.md
R57. -/

namespace Sys2Proof.Machine

/-- Perform the operations in the order given, each on the state the one before it left (20_memory.md R39). -/
def execAll : List Instr → State → Host.Outcome State Fault Refusal
  | [], s => .next s
  | i :: is, s => andThen (exec i s) (execAll is)

/-- The pseudo-operation `RX hh hh ... hh`: the bytes received one after another (30_encoding.md R57). -/
def receive (bytes : List Byte) (s : State) : Host.Outcome State Fault Refusal :=
  execAll (bytes.map Instr.rxbyte) s

/-! ## Trace syntax -/

/-- One hexadecimal digit. -/
def hexDigit (n : Nat) : String :=
  String.singleton (if n < 10 then Char.ofNat (48 + n) else Char.ofNat (55 + n))

/-- Two hexadecimal digits without a marker before them (30_encoding.md R57). -/
def hexByte (b : Byte) : String := hexDigit (b.toNat / 16) ++ hexDigit (b.toNat % 16)

/-- One trace line; the idle and reserved codes are not written in traces (30_encoding.md R57). -/
def traceLine : Instr → Option String
  | .rst => some "RST"
  | .norst => none
  | .rxbyte c => some ("RX " ++ hexByte c)
  | .pidle => none
  | .cidle => none
  | .poll => some "POLL"
  | .rdch r mid => some ("RDCH " ++ toString r.toNat ++ ", " ++ toString mid.toNat)
  | .crsv => none

/-- The event's name (60_exceptions.md R110). -/
def rejectName : Reject → String
  | .junk => "E_JUNK"
  | .oversize => "E_OVERSIZE"
  | .short => "E_SHORT"
  | .packetType => "E_TYPE"
  | .checksum => "E_CRC"

/-- The outcome label's name (60_exceptions.md R110). -/
def labelName : Label → String
  | .stored => "STORED"
  | .accept => "ACCEPT"
  | .rejected e => rejectName e

/-- A flag as one binary digit. -/
def traceBit (b : Bool) : String := if b then "1" else "0"

/-- The result a trace writes after an operation, read from the state the operation left (30_encoding.md R57). -/
def traceResult (i : Instr) (after : State) : Option String :=
  match i with
  | .rst => none
  | .norst => none
  | .rxbyte _ => after.label.map labelName
  | .pidle => none
  | .cidle => none
  | .poll =>
    some ("(" ++ traceBit after.cReady ++ ", " ++ traceBit after.cFsClear ++ ", " ++ traceBit after.cBaudToggle ++ ")")
  | .rdch _ _ => some (toString after.cVal.toNat)
  | .crsv => none

end Sys2Proof.Machine
end

