-- ==== Sys2Proof/Safety.lean ====
section
/-! DEFINITION. The terms claims are stated in: the invariant of 10_state.md R21 with the buffer's canonical form,
the byte position an RXBYTE writes, a flipped bit, a state with one parameter or the ghost label replaced. -/

namespace Sys2Proof.Machine

/-- The invariants of the state at every operation boundary: items 1 to 5 of 10_state.md R21, the canonical form
of the buffer, and what 20_memory.md R41 says of the frame behind a set completion flag. -/
structure StateInv (s : State) : Prop where
  /-- The buffer is in canonical form: sorted, inside positions 0 to 69. -/
  bufWf : Memory.wf s.buf = true
  /-- R21 item 1. -/
  posBound : s.pos.toNat ≤ 70
  /-- R21 item 2. -/
  assembling : s.begun = true → 1 ≤ s.pos.toNat ∧ s.pos.toNat < s.len.toNat ∧ s.len.toNat ≤ 70
  /-- R21 item 3, before the length byte. -/
  lenBefore : s.begun = true → s.pos.toNat ≤ 2 → s.len = 7
  /-- R21 item 3, after the length byte. -/
  lenAfter : s.begun = true → 3 ≤ s.pos.toNat → s.len = Memory.read s.buf 2 ∧ 3 ≤ s.len.toNat
  /-- R21 item 4, the start marker. -/
  markerStored : s.begun = true → Memory.read s.buf 0 = s.cfg.startMarker
  /-- R21 item 4, the packet type. -/
  typeStored : s.begun = true → 5 ≤ s.pos.toNat → Memory.read s.buf 4 = s.cfg.rcType
  /-- R21 item 5. -/
  doneFrame : s.done = true → s.baudok = true ∧ s.begun = false ∧ s.pos.toNat = s.len.toNat ∧
    3 ≤ s.len.toNat ∧ s.len.toNat ≤ 70 ∧ Memory.fold s.buf s.len.toNat = 0x0000
  /-- 20_memory.md R41: the frame behind DONE starts with the marker and is an RC frame. -/
  doneMarker : s.done = true → Memory.read s.buf 0 = s.cfg.startMarker ∧
    (5 ≤ s.len.toNat → Memory.read s.buf 4 = s.cfg.rcType)

/-- The buffer position an RXBYTE that stores writes to: the cursor, which a start marker seen in Seeking zeroes
first (41_frame_assembler.md R78, R91). -/
def storePosition (s : State) : Nat := if s.begun then s.pos.toNat else 0

/-- The outcome with a function applied to its next state. -/
def mapNext (f : State → State) (o : Host.Outcome State Fault Refusal) : Host.Outcome State Fault Refusal :=
  match o with
  | .next s => .next (f s)
  | .fault r => .fault r
  | .refused r => .refused r

/-- A block that differs in its start marker only. -/
def withStartMarker (m : Byte) (s : State) : State := { s with cfg := { s.cfg with startMarker := m } }

/-- A state that differs in the ghost label only. -/
def withLabel (l : Option Label) (s : State) : State := { s with label := l }

/-- A state with its trace, the output pins and the ghost label, at their idle values. -/
def withoutTrace (s : State) : State := idleOutputs (withLabel none s)

/-- The pins of a cycle that presents one operation, the other two ports undriven. -/
def onlyOperation (i : Instr) : Pins := Pins.onPort i.port (encodeWord i)

/-- The declared length in force after a byte is stored: the byte itself at position 2 (41_frame_assembler.md R80),
else LEN. -/
def lengthAfter (c : Byte) (s : State) : Byte := if s.pos.toNat = 2 then c else s.len

/-- The buffer after a byte is stored at the cursor (41_frame_assembler.md R79). -/
def bufferAfter (c : Byte) (s : State) : Memory := Memory.write s.buf s.pos.toNat c

/-- The byte sequence with bit `k` of byte `n` flipped (40_checksum.md R74). -/
def flipBit (bytes : List Byte) (n k : Nat) : List Byte := bytes.modify n (fun b => b ^^^ ((1 : Byte) <<< k))

end Sys2Proof.Machine
end

