-- ==== Sys2Proof/Certificates/Slice0/Obligations.lean ====
section
/-! DEFINITION. The statements for the provers, read from the numbered rules of the spec. -/

open Sys2Proof Sys2Proof.Machine

/-! ## Encoding -/

/-- Decoding an encoded operation gives it back, every operand at every value (30_encoding.md R52, R54).
The bytes that carry a word are the model's choice (log 11). -/
def Obligations.DecodeOfEncodeIsTheOperation : Prop :=
  ∀ i : Instr, decode (encode i) = .ok i

/-- A well-formed cycle's three operations come back from the pins that present them (30_encoding.md R49, R52). -/
def Obligations.DecodedPinsOfACycleAreTheCycle : Prop :=
  ∀ k : Cycle, k.wellFormed = true → k.encode.decode = k

/-- 30_encoding.md R52: the codes and fields of the three formats, every unused bit at every value. -/
def Obligations.FormatsDecodeAsTabulated : Prop :=
  decodeReset 1#1 = .rst ∧ decodeReset 0#1 = .norst ∧
  (∀ c : BitVec 8, decodeProducer (1#1 ++ c) = .rxbyte c) ∧
  (∀ u : BitVec 8, decodeProducer (0#1 ++ u) = .pidle) ∧
  (∀ u : BitVec 24, decodeConsumer (0#2 ++ u) = .cidle) ∧
  (∀ u : BitVec 24, decodeConsumer (1#2 ++ u) = .poll) ∧
  (∀ (r : BitVec 8) (mid : BitVec 16), decodeConsumer (2#2 ++ r ++ mid) = .rdch r mid) ∧
  (∀ u : BitVec 24, decodeConsumer (3#2 ++ u) = .crsv)

/-- Every word of a port is selected by exactly one row of the opcode table, and decodes to that row's operation
(30_encoding.md R53, R58). -/
def Obligations.EveryPortWordSelectsOneRow : Prop :=
  ∀ (p : Port) (w : Nat), w < 2 ^ p.width →
    ∃ row ∈ opcodeRows, row.selects p w = true ∧ (decodePort p w).mnemonic = row.mnemonic ∧
      ∀ row' ∈ opcodeRows, row'.selects p w = true → row' = row

/-- The words written out in 95_test_vectors.md V65 to V74, and the two below that table with bits set that are
ignored, decode to the operations named there; so does NORST's word (30_encoding.md R52). That a word is carried by
8, 16 or 32 bits is the model's choice (log 11). -/
def Obligations.WrittenOutWordsDecode : Prop :=
  decodeTableWord 8 0x1 = some .rst ∧ decodeTableWord 8 0x0 = some .norst ∧
  decodeTableWord 16 0x13E = some (.rxbyte 0x3E) ∧ decodeTableWord 16 0x100 = some (.rxbyte 0x00) ∧
  decodeTableWord 16 0x000 = some .pidle ∧ decodeTableWord 32 0x1000000 = some .poll ∧
  decodeTableWord 32 0x1ABCDEF = some .poll ∧ decodeTableWord 32 0x20005DC = some (.rdch 0 1500) ∧
  decodeTableWord 32 0x20F05DC = some (.rdch 15 1500) ∧ decodeTableWord 32 0x2FFFFFF = some (.rdch 255 65535) ∧
  decodeTableWord 32 0x0000000 = some .cidle ∧ decodeTableWord 32 0x3000000 = some .crsv ∧
  decodeTableWord 32 0x3ABCDEF = some .crsv

/-! ## The clock cycle -/

/-- 30_encoding.md R53: with `rst = 1` RST alone runs; otherwise the producer port's operation, then the consumer
port's on the resulting state. -/
def Obligations.StepRunsThePresentedOperations : Prop :=
  ∀ (s : State) (x : Pins) (rest : List Pins), s.inputs = x :: rest →
    (x.rst = 1#1 → step s = exec .rst { s with inputs := rest }) ∧
    (x.rst ≠ 1#1 → step s = andThen (exec (decodeProducer (x.rxValid ++ x.rxData)) { s with inputs := rest })
      (exec (decodeConsumer (x.cOp ++ x.cIdx ++ x.cMid))))

/-- A step at a state whose coming cycle presents one operation's word runs exactly that operation, with the idle
operations of the undriven ports (the model's `withFetchWord`, log 4, and byte carrier, log 11). -/
def Obligations.StepRunsTheFetchedOperation : Prop :=
  ∀ (i : Instr) (s : State),
    step (s.withFetchWord (8 * i.port.bytes) (encodeWord i)) =
      match i.port with
      | .reset =>
        if i = .rst then exec i { s with inputs := s.inputs.tail }
        else andThen (exec i { s with inputs := s.inputs.tail }) (fun a => andThen (exec .pidle a) (exec .cidle))
      | .producer => andThen (exec i { s with inputs := s.inputs.tail }) (exec .cidle)
      | .consumer => andThen (exec .pidle { s with inputs := s.inputs.tail }) (exec i)

/-- The model's choice (log 4): with nothing presented the cycle is idle; only the outputs and the ghost label
change, to their idle values. -/
def Obligations.NothingPresentedIsAnIdleCycle : Prop :=
  ∀ s : State, s.inputs = [] →
    step s = .next { s with cReady := false, cFsClear := false, cBaudToggle := false, cVal := 0, label := none }

/-- 20_memory.md R40: in one cycle the RXBYTE comes first and the consumer's operation sees the state after it. -/
def Obligations.ProducerComesBeforeConsumer : Prop :=
  ∀ (s u : State) (x : Pins) (rest : List Pins) (c : Byte), s.inputs = x :: rest → x.rst = 0#1 →
    x.rxValid = 1#1 → x.rxData = c → exec (.rxbyte c) { s with inputs := rest } = .next u →
    step s = exec (decodeConsumer x.consumerWord) u

/-- 70_reset_and_hazards.md R131: with `rst = 1` the byte and the consumer operation of the cycle are lost and the
outputs are idle. -/
def Obligations.ResetPinOverridesBothPorts : Prop :=
  ∀ (s : State) (x : Pins) (rest : List Pins), s.inputs = x :: rest → x.rst = 1#1 →
    ∃ t : State, step s = .next t ∧ (∀ a : Nat, Memory.read t.buf a = 0x00) ∧
      t.pos = 0 ∧ t.len = 0 ∧ t.begun = false ∧ t.done = false ∧ t.baudok = false ∧ t.junk = 0 ∧
      t.outputs = { ready := false, fsClear := false, baudToggle := false, val := 0, nchan := 16 } ∧
      t.cfg = s.cfg ∧ t.inputs = rest

/-- 30_encoding.md R50: after every cycle the POLL outputs are 0 unless the cycle performed a POLL, `c_val` is 0
unless it performed an RDCH, and `nchan` is 16. -/
def Obligations.OutputsAreIdleUnlessDriven : Prop :=
  ∀ s t : State, step s = .next t →
    (((nextPins s).rst = 1#1 ∨ (nextPins s).cOp ≠ 1#2) →
      t.outputs.ready = false ∧ t.outputs.fsClear = false ∧ t.outputs.baudToggle = false) ∧
    (((nextPins s).rst = 1#1 ∨ (nextPins s).cOp ≠ 2#2) → t.outputs.val = 0) ∧
    t.outputs.nchan = 16

/-- Cycles that present one operation each realise the total order of operations (20_memory.md R39): their run
leaves the state the operations leave, the trace (output pins and ghost label) apart. That the cycles to come are
a list in the state is the model's choice (log 4). -/
def Obligations.CyclesRealiseTheOrderOfOperations : Prop :=
  ∀ (ops : List Instr) (rest : List Pins) (s : State), s.inputs = ops.map onlyOperation ++ rest →
    mapNext withoutTrace (Host.Core.run Sys2Proof.core ops.length s) =
      mapNext withoutTrace (execAll ops { s with inputs := rest })

/-! ## Format R -/

/-- 70_reset_and_hazards.md R130: RST zeroes every buffer byte and every register, and is the only operation that
clears BAUDOK. -/
def Obligations.RstZeroesTheBlock : Prop :=
  (∀ s : State, ∃ t : State, exec .rst s = .next t ∧
    (∀ a : Nat, Memory.read t.buf a = 0x00) ∧ Memory.wf t.buf = true ∧
    t.pos = 0 ∧ t.len = 0 ∧ t.begun = false ∧ t.done = false ∧ t.baudok = false ∧ t.junk = 0 ∧
    t.cfg = s.cfg ∧ t.inputs = s.inputs) ∧
  (∀ (i : Instr) (s t : State), exec i s = .next t → s.baudok = true → t.baudok = false → i = .rst)

/-- 95_test_vectors.md V62: RST twice is RST once. -/
def Obligations.RstTwiceIsRstOnce : Prop :=
  ∀ s : State, execAll [.rst, .rst] s = exec .rst s

/-- NORST changes nothing (30_encoding.md R52); the model's ghost label is cleared by PIDLE, which changes nothing
else, and by RST (the model's choice, log 7). -/
def Obligations.NorstAndPidleDoNothing : Prop :=
  ∀ s : State, exec .norst s = .next s ∧ exec .pidle s = .next { s with label := none } ∧
    ∃ t : State, exec .rst s = .next t ∧ t.label = none

/-! ## Format P: RXBYTE -/

/-- 41_frame_assembler.md R77: a byte in Seeking that is not the start marker. -/
def Obligations.SeekingDiscardsAJunkByte : Prop :=
  ∀ (s : State) (c : Byte), s.begun = false → c ≠ s.cfg.startMarker →
    ∃ t : State, exec (.rxbyte c) s = .next t ∧
      t = { s with junk := t.junk, label := some (.rejected .junk) } ∧
      t.junk.toNat = min (s.junk.toNat + 1) 65535

/-- 41_frame_assembler.md R78: a byte in Seeking that is the start marker. -/
def Obligations.SeekingStartsAnAttempt : Prop :=
  ∀ (s : State) (c : Byte), s.begun = false → c = s.cfg.startMarker → Memory.wf s.buf = true →
    ∃ t : State, exec (.rxbyte c) s = .next t ∧
      t = { s with buf := t.buf, begun := true, pos := 1, len := 7, done := false, label := some .stored } ∧
      Memory.wf t.buf = true ∧ Memory.read t.buf 0 = c ∧
      ∀ a : Nat, a ≠ 0 → Memory.read t.buf a = Memory.read s.buf a

/-- 41_frame_assembler.md R79: in Assembling every byte is stored at the cursor and the cursor advances. -/
def Obligations.AssemblingStoresEveryByte : Prop :=
  (∀ (s : State) (c : Byte), s.begun = true → s.pos.toNat < 70 → Memory.wf s.buf = true →
    ∃ t : State, exec (.rxbyte c) s = .next t ∧
      t.pos.toNat = s.pos.toNat + 1 ∧ Memory.wf t.buf = true ∧ Memory.read t.buf s.pos.toNat = c ∧
      (∀ a : Nat, a ≠ s.pos.toNat → Memory.read t.buf a = Memory.read s.buf a) ∧
      t.cfg = s.cfg ∧ t.inputs = s.inputs ∧ t.outputs = s.outputs) ∧
  (∀ s : State, StateInv s → s.begun = true → s.pos.toNat ≤ 69)

/-- 41_frame_assembler.md R81: the length checks at position 2. -/
def Obligations.LengthByteOutOfRangeAborts : Prop :=
  ∀ (s : State) (c : Byte), s.begun = true → s.pos = 2 → Memory.wf s.buf = true →
    (70 < c.toNat → ∃ t : State, exec (.rxbyte c) s = .next t ∧
      t = { s with buf := t.buf, pos := 3, len := c, begun := false, label := some (.rejected .oversize) } ∧
      Memory.read t.buf 2 = c ∧ ∀ a : Nat, a ≠ 2 → Memory.read t.buf a = Memory.read s.buf a) ∧
    (c.toNat < 3 → ∃ t : State, exec (.rxbyte c) s = .next t ∧
      t = { s with buf := t.buf, pos := 3, len := c, begun := false, label := some (.rejected .short) } ∧
      Memory.read t.buf 2 = c ∧ ∀ a : Nat, a ≠ 2 → Memory.read t.buf a = Memory.read s.buf a) ∧
    (c.toNat = 70 → ∃ t : State, exec (.rxbyte c) s = .next t ∧ t.begun = true ∧ t.label = some .stored) ∧
    (StateInv s → s.done = false)

/-- 41_frame_assembler.md R82: the type filter at position 4. -/
def Obligations.WrongPacketTypeAborts : Prop :=
  ∀ (s : State) (c : Byte), s.begun = true → s.pos = 4 → c ≠ s.cfg.rcType → Memory.wf s.buf = true →
    ∃ t : State, exec (.rxbyte c) s = .next t ∧
      t = { s with buf := t.buf, pos := 5, begun := false, label := some (.rejected .packetType) } ∧
      Memory.read t.buf 4 = c ∧ (∀ a : Nat, a ≠ 4 → Memory.read t.buf a = Memory.read s.buf a) ∧
      (StateInv s → 5 ≤ s.len.toNat)

/-- 41_frame_assembler.md R90, rows 6 and 8: a byte that passes its checks and does not complete the frame. -/
def Obligations.ByteBeforeTheLastIsStored : Prop :=
  ∀ (s : State) (c : Byte), s.begun = true → s.pos.toNat < 70 →
    (s.pos.toNat = 2 → 3 ≤ c.toNat ∧ c.toNat ≤ 70) → (s.pos.toNat = 4 → c = s.cfg.rcType) →
    s.pos.toNat + 1 < (lengthAfter c s).toNat →
    exec (.rxbyte c) s = .next { s with
      buf := bufferAfter c s, pos := s.pos + 1, len := lengthAfter c s, label := some .stored }

/-- 41_frame_assembler.md R84: the byte that completes a frame whose fold is zero. -/
def Obligations.CompletedFrameWithZeroFoldIsAccepted : Prop :=
  ∀ (s : State) (c : Byte), s.begun = true → s.pos.toNat < 70 → (s.pos.toNat = 4 → c = s.cfg.rcType) →
    s.pos.toNat + 1 = (lengthAfter c s).toNat →
    Memory.fold (bufferAfter c s) (lengthAfter c s).toNat = 0x0000 →
    exec (.rxbyte c) s = .next { s with
      buf := bufferAfter c s, pos := s.pos + 1, len := lengthAfter c s, begun := false, baudok := true,
      done := true, label := some .accept }

/-- 41_frame_assembler.md R85: the byte that completes a frame whose fold is not zero. -/
def Obligations.CompletedFrameWithNonzeroFoldIsRejected : Prop :=
  ∀ (s : State) (c : Byte), s.begun = true → s.pos.toNat < 70 → (s.pos.toNat = 4 → c = s.cfg.rcType) →
    s.pos.toNat + 1 = (lengthAfter c s).toNat →
    Memory.fold (bufferAfter c s) (lengthAfter c s).toNat ≠ 0x0000 →
    ∃ t : State, exec (.rxbyte c) s = .next t ∧
      t = { s with
        buf := bufferAfter c s, pos := s.pos + 1, len := lengthAfter c s, begun := false, junk := t.junk,
        label := some (.rejected .checksum) } ∧
      t.junk.toNat = min (s.junk.toNat + (lengthAfter c s).toNat) 65535 ∧
      (StateInv s → t.done = false)

/-- 41_frame_assembler.md R87: while Assembling the start marker is not looked for, so a block with another marker
does the same. -/
def Obligations.MarkerInsideAnAttemptIsData : Prop :=
  ∀ (s : State) (c m : Byte), s.begun = true →
    exec (.rxbyte c) (withStartMarker m s) = mapNext (withStartMarker m) (exec (.rxbyte c) s)

/-- The model's one fault (log 5): an operation stops exactly where RXBYTE in Assembling would store outside the
buffer, and none is refused. -/
def Obligations.OnlyAStoreOutsideTheBufferStops : Prop :=
  ∀ (i : Instr) (s : State),
    (∀ f : Fault, exec i s = .fault f ↔
      ((∃ c : Byte, i = .rxbyte c) ∧ s.begun = true ∧ 70 ≤ s.pos.toNat ∧ f = .bufferOverrun s.pos.toNat)) ∧
    (∀ r : Refusal, exec i s ≠ .refused r)

/-- 41_frame_assembler.md R88 with the spec's default start marker: a 6-byte frame is accepted, and no frame of 3
or 4 bytes has a zero fold. -/
def Obligations.FramesBelowTheMinimumWithTheDefaultMarker : Prop :=
  (∃ t : State, receive [0x3E, 0x01, 0x06, 0x41, 0x31, 0xBF] State.reset = .next t ∧ t.label = some .accept) ∧
  (∀ x : Byte, crcFold [0x3E, x, 0x03] ≠ 0x0000) ∧
  (∀ x y : Byte, crcFold [0x3E, x, 0x04, y] ≠ 0x0000)

/-- 41_frame_assembler.md R89: whatever bytes follow, an attempt with the cursor at `POS` is over after at most
`70 - POS` of them. -/
def Obligations.AttemptEndsWithinTheCapacity : Prop :=
  ∀ (s : State) (bytes : List Byte), StateInv s → s.begun = true → bytes.length = 70 - s.pos.toNat →
    ∃ (n : Nat) (t : State), 1 ≤ n ∧ n ≤ 70 - s.pos.toNat ∧
      receive (bytes.take n) s = .next t ∧ t.begun = false ∧ StateInv t

/-- 41_frame_assembler.md R93, frame acceptance: a well-formed frame with a zero fold that starts in Seeking is
accepted at its last byte and at no earlier one. -/
def Obligations.WellFormedFrameIsAccepted : Prop :=
  ∀ (s : State) (frame : List Byte), StateInv s → s.begun = false → 7 ≤ frame.length → frame.length ≤ 70 →
    frame[0]? = some s.cfg.startMarker → frame[2]? = some (BitVec.ofNat 8 frame.length) →
    frame[4]? = some s.cfg.rcType → crcFold frame = 0x0000 →
    (∃ t : State, receive frame s = .next t ∧ t.done = true ∧ t.baudok = true ∧ t.begun = false ∧
      t.label = some .accept ∧ t.len.toNat = frame.length ∧ t.junk = s.junk ∧
      Memory.firstBytes t.buf frame.length = frame ∧
      ∀ a : Nat, frame.length ≤ a → Memory.read t.buf a = Memory.read s.buf a) ∧
    (∀ n : Nat, 1 ≤ n → n < frame.length →
      ∃ u : State, receive (frame.take n) s = .next u ∧ u.done = false ∧ u.begun = true)

/-- A frame of another packet type is dropped at its fifth byte (95_test_vectors.md S6; 41_frame_assembler.md R82):
DONE is 0 after each of its bytes, for as long as no start marker stands after the fifth (one would begin a false
attempt), and the next start marker begins a fresh attempt. -/
def Obligations.FrameOfAnotherTypeIsDropped : Prop :=
  ∀ (s : State) (b1 b3 len ty : Byte) (rest : List Byte), StateInv s → s.begun = false → 5 ≤ len.toNat →
    len.toNat ≤ 70 → ty ≠ s.cfg.rcType → s.cfg.startMarker ∉ rest →
    (∀ n : Nat, 1 ≤ n → n ≤ 4 → ∃ u : State, receive ([s.cfg.startMarker, b1, len, b3].take n) s = .next u ∧
      u.begun = true ∧ u.done = false) ∧
    (∃ t : State, receive [s.cfg.startMarker, b1, len, b3, ty] s = .next t ∧ t.begun = false ∧ t.done = false ∧
      t.baudok = s.baudok ∧ t.junk = s.junk ∧ t.label = some (.rejected .packetType)) ∧
    ∃ u v : State, receive ([s.cfg.startMarker, b1, len, b3, ty] ++ rest) s = .next u ∧
      u.begun = false ∧ u.done = false ∧ u.baudok = s.baudok ∧
      u.junk.toNat = min (s.junk.toNat + rest.length) 65535 ∧
      exec (.rxbyte s.cfg.startMarker) u = .next v ∧ v.begun = true ∧ v.pos = 1 ∧ v.done = false

/-! ## The Checksum Engine -/

/-- 40_checksum.md R67: the update per output bit. -/
def Obligations.ChecksumUpdatePerBit : Prop :=
  ∀ (crc : BitVec 16) (data d1 e h : BitVec 8), d1 = data ^^^ crc.extractLsb' 0 8 → h = crc.extractLsb' 8 8 →
    e.extractLsb' 4 4 = d1.extractLsb' 4 4 ^^^ d1.extractLsb' 0 4 → e.extractLsb' 0 4 = d1.extractLsb' 0 4 →
    (crcUpd crc data).extractLsb' 11 5 = e.extractLsb' 3 5 ∧
    (crcUpd crc data).extractLsb' 8 3 = e.extractLsb' 0 3 ^^^ e.extractLsb' 5 3 ∧
    (crcUpd crc data).getLsbD 7 = (h.getLsbD 7 ^^ e.getLsbD 4) ∧
    (crcUpd crc data).extractLsb' 4 3 = h.extractLsb' 4 3 ^^^ e.extractLsb' 1 3 ∧
    (crcUpd crc data).getLsbD 3 = (h.getLsbD 3 ^^ e.getLsbD 7 ^^ e.getLsbD 0) ∧
    (crcUpd crc data).extractLsb' 0 3 = h.extractLsb' 0 3 ^^^ e.extractLsb' 4 3

/-- 40_checksum.md R68: the fold starts at 0x0000 and applies the update left to right. -/
def Obligations.ChecksumFoldIsLeftToRight : Prop :=
  crcFold [] = 0x0000 ∧ ∀ (bytes : List Byte) (b : Byte), crcFold (bytes ++ [b]) = crcUpd (crcFold bytes) b

/-- 40_checksum.md R70: exactly one pair of trailing bytes makes a body fold to zero, the body's own fold with its
low byte first. -/
def Obligations.SenderChecksumIsUnique : Prop :=
  (∀ (body : List Byte) (x y : Byte), crcFold (body ++ [x, y]) = 0x0000 ↔
    (x = (crcFold body).extractLsb' 0 8 ∧ y = (crcFold body).extractLsb' 8 8)) ∧
  crcFold [0x3E, 0x03, 0x07, 0x00, 0x31] = 0x3CAB

/-- 40_checksum.md section 4 (R72): the update is linear over XOR in the pair, fixes zero, and for each byte is a
bijection of the 16-bit values. -/
def Obligations.ChecksumUpdateIsLinearAndBijective : Prop :=
  (∀ (a b : Half) (x y : Byte), crcUpd (a ^^^ b) (x ^^^ y) = crcUpd a x ^^^ crcUpd b y) ∧
  crcUpd 0 0 = 0 ∧
  ∀ data : Byte, Function.Bijective (fun crc : Half => crcUpd crc data)

/-- 40_checksum.md R73: the update equals the bit-serial procedure on every input; the nine digits fold to 0x2189. -/
def Obligations.ChecksumUpdateIsBitSerial : Prop :=
  (∀ (crc : Half) (data : Byte), crcUpd crc data = crcSerial crc data) ∧
  crcFold [0x31, 0x32, 0x33, 0x34, 0x35, 0x36, 0x37, 0x38, 0x39] = 0x2189

/-- 40_checksum.md section 5 (R74): zero bytes fold to zero, leading zeros do not matter, one byte folds to its
update from zero. -/
def Obligations.ChecksumOfZeroBytes : Prop :=
  (∀ n : Nat, crcFold (List.replicate n 0x00) = 0x0000) ∧
  (∀ (n : Nat) (bytes : List Byte), crcFold (List.replicate n 0x00 ++ bytes) = crcFold bytes) ∧
  ∀ b : Byte, crcFold [b] = crcUpd 0x0000 b

/-- 40_checksum.md section 5 (R74): a single flipped bit anywhere in a valid frame makes the fold non-zero. -/
def Obligations.FlippedBitIsDetected : Prop :=
  ∀ (frame : List Byte) (n k : Nat), crcFold frame = 0x0000 → n < frame.length → k < 8 →
    crcFold (flipBit frame n k) ≠ 0x0000

/-- 10_state.md section 9 (R24): a running checksum, updated at each stored byte, is the fold over the buffer. -/
def Obligations.RunningChecksumIsTheFold : Prop :=
  ∀ (m : Memory) (n : Nat) (c : Byte), Memory.wf m = true → n < 70 →
    Memory.fold (Memory.write m n c) (n + 1) = crcUpd (Memory.fold m n) c

/-- Two buffers in canonical form that read alike at positions 0 to 69 are equal data (the model's form of
10_state.md R22). -/
def Obligations.BuffersThatReadAlikeAreEqual : Prop :=
  ∀ m m' : Memory, Memory.wf m = true → Memory.wf m' = true →
    (∀ a : Nat, a < 70 → Memory.read m a = Memory.read m' a) → m = m'

/-! ## Format C -/

/-- 30_encoding.md R55: the reserved code performs no operation, with idle outputs; it does what CIDLE does; unused
bits are ignored. -/
def Obligations.ReservedCodeIsIdle : Prop :=
  (∀ s : State, exec .crsv s = exec .cidle s ∧
    exec .crsv s = .next { s with cReady := false, cFsClear := false, cBaudToggle := false, cVal := 0 }) ∧
  (∀ u v : BitVec 8, decodeProducer (0#1 ++ u) = decodeProducer (0#1 ++ v)) ∧
  (∀ u v : BitVec 24, decodeConsumer (0#2 ++ u) = decodeConsumer (0#2 ++ v) ∧
    decodeConsumer (1#2 ++ u) = decodeConsumer (1#2 ++ v) ∧ decodeConsumer (3#2 ++ u) = .crsv)

/-- 42_consumer_ops.md R96: POLL. -/
def Obligations.PollReadsAndClears : Prop :=
  ∀ s : State, ∃ t : State, exec .poll s = .next t ∧
    t.cReady = s.done ∧ t.cFsClear = s.done ∧ t.cVal = 0 ∧ t.done = false ∧
    (t.cBaudToggle = true ↔ s.baudok = false ∧ 1000 < s.junk.toNat) ∧
    (t.cBaudToggle = true → t.junk = 0 ∧ t.begun = false) ∧
    (t.cBaudToggle = false → t.junk = s.junk ∧ t.begun = s.begun) ∧
    t.baudok = s.baudok ∧ t.buf = s.buf ∧ t.pos = s.pos ∧ t.len = s.len ∧ t.label = s.label ∧
    t.cfg = s.cfg ∧ t.inputs = s.inputs ∧
    (StateInv s → ¬ (t.cReady = true ∧ t.cBaudToggle = true))

/-- Two POLLs in a row: the second is neither ready nor a toggle (20_memory.md R43, 42_consumer_ops.md R105). -/
def Obligations.SecondPollReportsNothing : Prop :=
  ∀ s : State, ∃ t : State, execAll [.poll, .poll] s = .next t ∧
    t.cReady = false ∧ t.cFsClear = false ∧ t.cBaudToggle = false

/-- 20_memory.md section 6 (R41): what a consumer may rely on when POLL answers ready. -/
def Obligations.ReadyMeansAValidFrame : Prop :=
  ∀ s : State, StateInv s → s.done = true →
    ∃ t : State, exec .poll s = .next t ∧ t.cReady = true ∧ t.begun = false ∧
      3 ≤ t.len.toNat ∧ t.len.toNat ≤ 70 ∧ Memory.fold t.buf t.len.toNat = 0x0000 ∧
      Memory.read t.buf 0 = t.cfg.startMarker ∧ (5 ≤ t.len.toNat → Memory.read t.buf 4 = t.cfg.rcType)

/-- 70_reset_and_hazards.md R137: a start marker before the POLL loses the accepted frame. -/
def Obligations.StartMarkerLosesAnUnpolledFrame : Prop :=
  ∀ s : State, s.begun = false →
    ∃ t : State, execAll [.rxbyte s.cfg.startMarker, .poll] s = .next t ∧ t.cReady = false ∧ t.cFsClear = false

/-- 42_consumer_ops.md R100: RDCH. -/
def Obligations.RdchAnswersTheChannel : Prop :=
  ∀ (s : State) (r : Byte) (mid : Half), ∃ t : State, exec (.rdch r mid) s = .next t ∧
    t = { s with cReady := false, cFsClear := false, cBaudToggle := false, cVal := t.cVal } ∧
    ((16 ≤ r.toNat ∨ s.baudok = false) → t.cVal = mid) ∧
    (r.toNat < 16 → s.baudok = true → t.cVal.toNat =
      ((Memory.read s.buf (6 + 2 * r.toNat)).toNat + 256 * (Memory.read s.buf (7 + 2 * r.toNat)).toNat + 4) / 8)

/-- 42_consumer_ops.md R101: the neutral value, whatever the buffer holds. -/
def Obligations.RdchAnswersTheNeutralValue : Prop :=
  ∀ (s : State) (m : Memory) (r : Byte) (mid : Half), (16 ≤ r.toNat ∨ s.baudok = false) →
    ∃ t t' : State, exec (.rdch r mid) s = .next t ∧ t.cVal = mid ∧
      exec (.rdch r mid) { s with buf := m } = .next t' ∧ t'.cVal = mid

/-- 42_consumer_ops.md R102: RDCH's answer depends on BAUDOK and the channel's two bytes alone. -/
def Obligations.RdchDependsOnTwoBytes : Prop :=
  ∀ (s s' : State) (r : Byte) (mid : Half), s.baudok = s'.baudok →
    Memory.read s.buf (6 + 2 * r.toNat) = Memory.read s'.buf (6 + 2 * r.toNat) →
    Memory.read s.buf (7 + 2 * r.toNat) = Memory.read s'.buf (7 + 2 * r.toNat) →
    ∃ t t' : State, exec (.rdch r mid) s = .next t ∧ exec (.rdch r mid) s' = .next t' ∧ t.cVal = t'.cVal

/-- 42_consumer_ops.md R103: the conversion rounds to the nearest microsecond, ties up, with no wrap. -/
def Obligations.TicksRoundToNearestMicrosecond : Prop :=
  (∀ ticks : Half, (ticksToMicros ticks).toNat = (ticks.toNat + 4) / 8 ∧ (ticksToMicros ticks).toNat ≤ 8192 ∧
    8 * (ticksToMicros ticks).toNat ≤ ticks.toNat + 4 ∧ ticks.toNat < 8 * (ticksToMicros ticks).toNat + 4) ∧
  (∀ ticks : Half, ticks.toNat ≤ 3 → ticksToMicros ticks = 0) ∧
  (∀ ticks : Half, 4 ≤ ticks.toNat → ticks.toNat ≤ 11 → ticksToMicros ticks = 1) ∧
  ticksToMicros 12 = 2 ∧ ticksToMicros 2048 = 256 ∧ ticksToMicros 65535 = 8192

/-- 60_exceptions.md R118: what the consumer's operations may write. -/
def Obligations.ConsumerWritesOnlyItsFlags : Prop :=
  ∀ (i : Instr) (s : State), i.port = .consumer →
    ∃ t : State, exec i s = .next t ∧
      t.buf = s.buf ∧ t.pos = s.pos ∧ t.len = s.len ∧ t.baudok = s.baudok ∧ t.label = s.label ∧
      t.cfg = s.cfg ∧ t.inputs = s.inputs ∧
      (t.done ≠ s.done → i = .poll ∧ t.done = false) ∧
      (t.junk ≠ s.junk → i = .poll ∧ t.cBaudToggle = true ∧ t.junk = 0) ∧
      (t.begun ≠ s.begun → i = .poll ∧ t.cBaudToggle = true ∧ t.begun = false)

/-! ## The whole machine -/

/-- 10_state.md R17: where DONE is set and where it is cleared. -/
def Obligations.DoneIsSetOnlyByAnAcceptedFrame : Prop :=
  ∀ (i : Instr) (s t : State), exec i s = .next t →
    (s.done = false → t.done = true → (∃ c : Byte, i = .rxbyte c) ∧ t.label = some .accept ∧ t.baudok = true ∧
      Memory.fold t.buf t.len.toNat = 0x0000) ∧
    (s.done = true → t.done = false →
      i = .rst ∨ i = .poll ∨ (i = .rxbyte s.cfg.startMarker ∧ s.begun = false))

/-- 10_state.md R14: where JUNK changes. -/
def Obligations.JunkChangesInThreePlacesAndReset : Prop :=
  ∀ (i : Instr) (s t : State), exec i s = .next t → t.junk ≠ s.junk →
    (i = .rst ∧ t.junk = 0) ∨
    (∃ c : Byte, i = .rxbyte c ∧ s.begun = false ∧ c ≠ s.cfg.startMarker ∧
      t.junk.toNat = min (s.junk.toNat + 1) 65535) ∨
    (∃ c : Byte, i = .rxbyte c ∧ t.label = some (.rejected .checksum) ∧
      t.junk.toNat = min (s.junk.toNat + t.len.toNat) 65535) ∨
    (i = .poll ∧ s.baudok = false ∧ 1000 < s.junk.toNat ∧ t.junk = 0)

/-- 42_consumer_ops.md R98, last sentences: once BAUDOK is 1 no POLL toggles again until RST, whatever happens in
between. -/
def Obligations.NoToggleAfterAnAcceptedFrame : Prop :=
  ∀ (ops : List Instr) (s t : State), s.baudok = true → Instr.rst ∉ ops → execAll ops s = .next t →
    t.baudok = true ∧ ∃ u : State, exec .poll t = .next u ∧ u.cBaudToggle = false

/-- 95_test_vectors.md S8 (R98, R105): any sequence of more than 1000 junk bytes with BAUDOK false makes the next
POLL toggle and clear the count; one of at most 1000 does not. -/
def Obligations.JunkBytesBringTheToggle : Prop :=
  ∀ (s : State) (bytes : List Byte), s.begun = false → s.baudok = false → s.junk = 0 →
    (∀ c ∈ bytes, c ≠ s.cfg.startMarker) →
    ∃ t : State, execAll (bytes.map Instr.rxbyte ++ [.poll]) s = .next t ∧
      (1001 ≤ bytes.length → t.cBaudToggle = true ∧ t.junk = 0) ∧
      (bytes.length ≤ 1000 → t.cBaudToggle = false ∧ t.junk.toNat = bytes.length)

/-- 00_scope.md R8: no state and no output depends on the ghost label. -/
def Obligations.NothingDependsOnTheLabel : Prop :=
  ∀ (i : Instr) (l : Option Label) (s : State),
    mapNext (withLabel none) (exec i (withLabel l s)) = mapNext (withLabel none) (exec i s)

/-- 70_reset_and_hazards.md R142: the parameters are fixed per block; a step takes one cycle from the environment. -/
def Obligations.StepKeepsTheParameters : Prop :=
  ∀ s t : State, step s = .next t → t.cfg = s.cfg ∧ t.inputs = s.inputs.tail

/-- The post-RST state satisfies the invariants of 10_state.md R21, for every choice of the parameters. -/
def Obligations.ResetSatisfiesTheInvariant : Prop :=
  (∀ cfg : Config, StateInv (State.resetWith cfg)) ∧ StateInv State.reset

/-- Every step keeps the invariants of 10_state.md R21: items 1 to 5 with the buffer's canonical form and R41's
frame, item 6 (BAUDOK) and item 7 (where bytes are written). -/
def Obligations.StepKeepsTheInvariant : Prop :=
  ∀ s t : State, StateInv s → step s = .next t →
    StateInv t ∧
    ((nextPins s).rst ≠ 1#1 → s.baudok = true → t.baudok = true) ∧
    ((nextPins s).rst ≠ 1#1 → ∀ a : Nat, Memory.read t.buf a ≠ Memory.read s.buf a →
      (nextPins s).rxValid = 1#1 ∧ a = storePosition s ∧ a ≤ 69 ∧ Memory.read t.buf a = (nextPins s).rxData)

/-- 70_reset_and_hazards.md R142: in every state that satisfies R21 every operation has its successor, which
satisfies R21 again. -/
def Obligations.EveryOperationCompletes : Prop :=
  ∀ (i : Instr) (s : State), StateInv s → ∃ t : State, exec i s = .next t ∧ StateInv t ∧ t.cfg = s.cfg

/-- The block never stops (70_reset_and_hazards.md section 5): from every state that satisfies R21, whatever the
environment presents, every run goes on. -/
def Obligations.RunsNeverStop : Prop :=
  ∀ (n : Nat) (s : State), StateInv s →
    ∃ t : State, Host.Core.run Sys2Proof.core n s = .next t ∧ StateInv t
end

