-- ==== Sys2Proof/Laws/Checksum.lean ====
section
/-! SUPPORT. The checksum fold over joined byte sequences. -/

namespace Sys2Proof.Machine

/-- The fold over two sequences goes on from the first one's fold. -/
theorem crcFold_append (xs ys : List Byte) : crcFold (xs ++ ys) = ys.foldl crcUpd (crcFold xs) := by
  simp [crcFold, List.foldl_append]

/-- The update by a byte equal to the low byte shifts the high byte down (40_checksum.md R70). -/
theorem crcUpd_low_byte (crc : Half) : crcUpd crc (crc.extractLsb' 0 8) = (crc.extractLsb' 8 8).setWidth 16 := by
  ext i hi
  simp [crcUpd]
  rw [BitVec.getElem_append]
  split <;> simp_all

end Sys2Proof.Machine
end

