-- ==== Sys2Proof/Laws/Memory.lean ====
section
/-! SUPPORT. The frame buffer: a byte written is read back, every other position is left alone, every write keeps
the canonical form. -/

namespace Sys2Proof.Machine

@[simp] theorem Memory.read_nil (a : Nat) : Memory.read [] a = 0x00 := rfl

theorem Memory.read_cons (b : Nat) (v : Byte) (m : Memory) (a : Nat) :
    Memory.read ((b, v) :: m) a = if a = b then v else Memory.read m a := rfl

/-- What a non-empty buffer in canonical form looks like. -/
theorem Memory.wfFrom_cons_iff (lo a : Nat) (v : Byte) (m : Memory) :
    Memory.wfFrom lo ((a, v) :: m) = true ↔
      lo ≤ a ∧ a < 70 ∧ v ≠ 0x00 ∧ Memory.wfFrom (a + 1) m = true := by
  simp [Memory.wfFrom, Config.cap, Memory.background, and_assoc]

/-- A canonical form from a position up is one from every lower position. -/
theorem Memory.wfFrom_mono {lo lo' : Nat} {m : Memory} (hle : lo' ≤ lo) (h : Memory.wfFrom lo m = true) :
    Memory.wfFrom lo' m = true := by
  cases m with
  | nil => rfl
  | cons p m =>
    obtain ⟨a, v⟩ := p
    rw [Memory.wfFrom_cons_iff] at h ⊢
    exact ⟨by omega, h.2⟩

/-- Below its first position a buffer in canonical form reads as 0x00. -/
theorem Memory.read_below {lo : Nat} {m : Memory} (h : Memory.wfFrom lo m = true) {a : Nat} (ha : a < lo) :
    Memory.read m a = 0x00 := by
  induction m generalizing lo with
  | nil => rfl
  | cons p m ih =>
    obtain ⟨b, v⟩ := p
    rw [Memory.wfFrom_cons_iff] at h
    rw [Memory.read_cons, if_neg (by omega)]
    exact ih h.2.2.2 (by omega)

/-- A position other than the one written reads as before, in any buffer. -/
theorem Memory.read_write_other (m : Memory) {a b : Nat} (v : Byte) (h : b ≠ a) :
    Memory.read (Memory.write m a v) b = Memory.read m b := by
  induction m with
  | nil => unfold Memory.write; split <;> simp [Memory.read, h, Memory.background]
  | cons p m ih =>
    obtain ⟨c, w⟩ := p
    unfold Memory.write
    split_ifs <;> simp_all [Memory.read]

theorem Memory.read_write_same_from {lo : Nat} {m : Memory} (hwf : Memory.wfFrom lo m = true) (a : Nat) (v : Byte) :
    Memory.read (Memory.write m a v) a = v := by
  induction m generalizing lo with
  | nil => unfold Memory.write; split <;> simp_all [Memory.read, Memory.background]
  | cons p m ih =>
    obtain ⟨c, w⟩ := p
    have hm := ((Memory.wfFrom_cons_iff _ _ _ _).1 hwf).2.2.2
    unfold Memory.write
    split_ifs with h1 h2 h3 h4
    · rw [h2, Memory.read_cons, if_neg (by omega)]
      exact Memory.read_below hm (by omega)
    · simp [Memory.read]
    · rw [h4, h3]
      exact Memory.read_below hm (by omega)
    · simp [Memory.read]
    · rw [Memory.read_cons, if_neg h3]
      exact ih hm

/-- A byte written to a buffer in canonical form is read back. -/
theorem Memory.read_write_same {m : Memory} (hwf : Memory.wf m = true) (a : Nat) (v : Byte) :
    Memory.read (Memory.write m a v) a = v :=
  Memory.read_write_same_from hwf a v

/-- What a write does to every position of a buffer in canonical form. -/
theorem Memory.read_write {m : Memory} (hwf : Memory.wf m = true) (a b : Nat) (v : Byte) :
    Memory.read (Memory.write m a v) b = if b = a then v else Memory.read m b := by
  split
  · next h => rw [h]; exact Memory.read_write_same hwf a v
  · next h => exact Memory.read_write_other m v h

theorem Memory.wfFrom_write {lo : Nat} {m : Memory} (hwf : Memory.wfFrom lo m = true) {a : Nat} (hlo : lo ≤ a)
    (ha : a < 70) (v : Byte) : Memory.wfFrom lo (Memory.write m a v) = true := by
  induction m generalizing lo with
  | nil =>
    unfold Memory.write
    split
    · rfl
    · next h => exact (Memory.wfFrom_cons_iff _ _ _ _).2 ⟨hlo, ha, h, rfl⟩
  | cons p m ih =>
    obtain ⟨c, w⟩ := p
    obtain ⟨h1, h2, h3, h4⟩ := (Memory.wfFrom_cons_iff _ _ _ _).1 hwf
    unfold Memory.write
    split_ifs with g1 g2 g3 g4
    · exact hwf
    · exact (Memory.wfFrom_cons_iff _ _ _ _).2
        ⟨hlo, ha, g2, (Memory.wfFrom_cons_iff _ _ _ _).2 ⟨by omega, h2, h3, h4⟩⟩
    · exact Memory.wfFrom_mono (by omega) h4
    · exact (Memory.wfFrom_cons_iff _ _ _ _).2 ⟨hlo, ha, g4, Memory.wfFrom_mono (by omega) h4⟩
    · exact (Memory.wfFrom_cons_iff _ _ _ _).2 ⟨h1, h2, h3, ih h4 (by omega)⟩

/-- A write inside the buffer keeps the canonical form. -/
theorem Memory.wf_write {m : Memory} (hwf : Memory.wf m = true) {a : Nat} (ha : a < 70) (v : Byte) :
    Memory.wf (Memory.write m a v) = true :=
  Memory.wfFrom_write hwf (Nat.zero_le a) ha v

/-- The empty buffer, every position 0x00, is in canonical form. -/
@[simp] theorem Memory.wf_nil : Memory.wf [] = true := rfl

/-- The buffer after reset is in canonical form. -/
theorem reset_buf_wf : Memory.wf State.reset.buf = true := rfl

/-- Nothing is listed beyond the buffer's last position. -/
theorem Memory.read_outside {m : Memory} (hwf : Memory.wf m = true) {a : Nat} (ha : 70 ≤ a) :
    Memory.read m a = 0x00 := by
  have key : ∀ (lo : Nat) (m : Memory), Memory.wfFrom lo m = true → Memory.read m a = 0x00 := by
    intro lo m
    induction m generalizing lo with
    | nil => intro _; rfl
    | cons p m ih =>
      obtain ⟨b, v⟩ := p
      intro h
      obtain ⟨_, h2, _, h4⟩ := (Memory.wfFrom_cons_iff _ _ _ _).1 h
      rw [Memory.read_cons, if_neg (by omega)]
      exact ih _ h4
  exact key 0 m hwf

/-- The two-byte read is little-endian (20_memory.md R31). -/
theorem Memory.readPair_toNat (m : Memory) (a : Nat) :
    (Memory.readPair m a).toNat = (Memory.read m a).toNat + 256 * (Memory.read m (a + 1)).toNat := by
  have h0 := (Memory.read m a).isLt
  unfold Memory.readPair
  rw [BitVec.toNat_append, ← Nat.shiftLeft_add_eq_or_of_lt h0, Nat.shiftLeft_eq]
  omega

@[simp] theorem Memory.firstBytes_zero (m : Memory) : Memory.firstBytes m 0 = [] := rfl

theorem Memory.firstBytes_succ (m : Memory) (n : Nat) :
    Memory.firstBytes m (n + 1) = Memory.firstBytes m n ++ [Memory.read m n] := by
  simp [Memory.firstBytes, List.range_succ]

@[simp] theorem Memory.firstBytes_length (m : Memory) (n : Nat) : (Memory.firstBytes m n).length = n := by
  simp [Memory.firstBytes]

/-- The first bytes depend on the positions below alone. -/
theorem Memory.firstBytes_congr {m m' : Memory} {n : Nat} (h : ∀ a, a < n → Memory.read m a = Memory.read m' a) :
    Memory.firstBytes m n = Memory.firstBytes m' n := by
  simpa [Memory.firstBytes] using h

/-- A write at or beyond a position leaves the bytes below it alone. -/
theorem Memory.firstBytes_write (m : Memory) {a n : Nat} (v : Byte) (h : n ≤ a) :
    Memory.firstBytes (Memory.write m a v) n = Memory.firstBytes m n :=
  Memory.firstBytes_congr fun b hb => Memory.read_write_other m v (by omega)

end Sys2Proof.Machine
end

