-- ==== Sys2Proof/Laws/State.lean ====
section
/-! SUPPORT. One lemma per field per update of the state, each true by unfolding. -/

namespace Sys2Proof.Machine

@[simp] theorem storeAndAdvance_buf (c : Byte) (s : State) : (storeAndAdvance c s).buf = Memory.write s.buf s.pos.toNat c := rfl
@[simp] theorem storeAndAdvance_pos (c : Byte) (s : State) : (storeAndAdvance c s).pos = s.pos + 1 := rfl
@[simp] theorem storeAndAdvance_len (c : Byte) (s : State) : (storeAndAdvance c s).len = s.len := rfl
@[simp] theorem storeAndAdvance_begun (c : Byte) (s : State) : (storeAndAdvance c s).begun = s.begun := rfl
@[simp] theorem storeAndAdvance_done (c : Byte) (s : State) : (storeAndAdvance c s).done = s.done := rfl
@[simp] theorem storeAndAdvance_baudok (c : Byte) (s : State) : (storeAndAdvance c s).baudok = s.baudok := rfl
@[simp] theorem storeAndAdvance_junk (c : Byte) (s : State) : (storeAndAdvance c s).junk = s.junk := rfl
@[simp] theorem storeAndAdvance_cReady (c : Byte) (s : State) : (storeAndAdvance c s).cReady = s.cReady := rfl
@[simp] theorem storeAndAdvance_cFsClear (c : Byte) (s : State) : (storeAndAdvance c s).cFsClear = s.cFsClear := rfl
@[simp] theorem storeAndAdvance_cBaudToggle (c : Byte) (s : State) : (storeAndAdvance c s).cBaudToggle = s.cBaudToggle := rfl
@[simp] theorem storeAndAdvance_cVal (c : Byte) (s : State) : (storeAndAdvance c s).cVal = s.cVal := rfl
@[simp] theorem storeAndAdvance_label (c : Byte) (s : State) : (storeAndAdvance c s).label = s.label := rfl
@[simp] theorem storeAndAdvance_cfg (c : Byte) (s : State) : (storeAndAdvance c s).cfg = s.cfg := rfl
@[simp] theorem storeAndAdvance_inputs (c : Byte) (s : State) : (storeAndAdvance c s).inputs = s.inputs := rfl

@[simp] theorem reject_buf (e : Reject) (s : State) : (reject e s).buf = s.buf := rfl
@[simp] theorem reject_pos (e : Reject) (s : State) : (reject e s).pos = s.pos := rfl
@[simp] theorem reject_len (e : Reject) (s : State) : (reject e s).len = s.len := rfl
@[simp] theorem reject_begun (e : Reject) (s : State) : (reject e s).begun = false := rfl
@[simp] theorem reject_done (e : Reject) (s : State) : (reject e s).done = s.done := rfl
@[simp] theorem reject_baudok (e : Reject) (s : State) : (reject e s).baudok = s.baudok := rfl
@[simp] theorem reject_junk (e : Reject) (s : State) : (reject e s).junk = rejectedJunk e s := rfl
@[simp] theorem reject_cReady (e : Reject) (s : State) : (reject e s).cReady = s.cReady := rfl
@[simp] theorem reject_cFsClear (e : Reject) (s : State) : (reject e s).cFsClear = s.cFsClear := rfl
@[simp] theorem reject_cBaudToggle (e : Reject) (s : State) : (reject e s).cBaudToggle = s.cBaudToggle := rfl
@[simp] theorem reject_cVal (e : Reject) (s : State) : (reject e s).cVal = s.cVal := rfl
@[simp] theorem reject_label (e : Reject) (s : State) : (reject e s).label = some (.rejected e) := rfl
@[simp] theorem reject_cfg (e : Reject) (s : State) : (reject e s).cfg = s.cfg := rfl
@[simp] theorem reject_inputs (e : Reject) (s : State) : (reject e s).inputs = s.inputs := rfl

@[simp] theorem beginAttempt_buf (s : State) : (beginAttempt s).buf = s.buf := rfl
@[simp] theorem beginAttempt_pos (s : State) : (beginAttempt s).pos = 0 := rfl
@[simp] theorem beginAttempt_len (s : State) : (beginAttempt s).len = 7 := rfl
@[simp] theorem beginAttempt_begun (s : State) : (beginAttempt s).begun = true := rfl
@[simp] theorem beginAttempt_done (s : State) : (beginAttempt s).done = false := rfl
@[simp] theorem beginAttempt_baudok (s : State) : (beginAttempt s).baudok = s.baudok := rfl
@[simp] theorem beginAttempt_junk (s : State) : (beginAttempt s).junk = s.junk := rfl
@[simp] theorem beginAttempt_cReady (s : State) : (beginAttempt s).cReady = s.cReady := rfl
@[simp] theorem beginAttempt_cFsClear (s : State) : (beginAttempt s).cFsClear = s.cFsClear := rfl
@[simp] theorem beginAttempt_cBaudToggle (s : State) : (beginAttempt s).cBaudToggle = s.cBaudToggle := rfl
@[simp] theorem beginAttempt_cVal (s : State) : (beginAttempt s).cVal = s.cVal := rfl
@[simp] theorem beginAttempt_label (s : State) : (beginAttempt s).label = s.label := rfl
@[simp] theorem beginAttempt_cfg (s : State) : (beginAttempt s).cfg = s.cfg := rfl
@[simp] theorem beginAttempt_inputs (s : State) : (beginAttempt s).inputs = s.inputs := rfl

@[simp] theorem acceptFrame_buf (s : State) : (acceptFrame s).buf = s.buf := rfl
@[simp] theorem acceptFrame_pos (s : State) : (acceptFrame s).pos = s.pos := rfl
@[simp] theorem acceptFrame_len (s : State) : (acceptFrame s).len = s.len := rfl
@[simp] theorem acceptFrame_begun (s : State) : (acceptFrame s).begun = false := rfl
@[simp] theorem acceptFrame_done (s : State) : (acceptFrame s).done = true := rfl
@[simp] theorem acceptFrame_baudok (s : State) : (acceptFrame s).baudok = true := rfl
@[simp] theorem acceptFrame_junk (s : State) : (acceptFrame s).junk = s.junk := rfl
@[simp] theorem acceptFrame_cReady (s : State) : (acceptFrame s).cReady = s.cReady := rfl
@[simp] theorem acceptFrame_cFsClear (s : State) : (acceptFrame s).cFsClear = s.cFsClear := rfl
@[simp] theorem acceptFrame_cBaudToggle (s : State) : (acceptFrame s).cBaudToggle = s.cBaudToggle := rfl
@[simp] theorem acceptFrame_cVal (s : State) : (acceptFrame s).cVal = s.cVal := rfl
@[simp] theorem acceptFrame_label (s : State) : (acceptFrame s).label = some .accept := rfl
@[simp] theorem acceptFrame_cfg (s : State) : (acceptFrame s).cfg = s.cfg := rfl
@[simp] theorem acceptFrame_inputs (s : State) : (acceptFrame s).inputs = s.inputs := rfl

@[simp] theorem driveOutputs_buf (x y z : Bool) (v : Half) (s : State) : (driveOutputs x y z v s).buf = s.buf := rfl
@[simp] theorem driveOutputs_pos (x y z : Bool) (v : Half) (s : State) : (driveOutputs x y z v s).pos = s.pos := rfl
@[simp] theorem driveOutputs_len (x y z : Bool) (v : Half) (s : State) : (driveOutputs x y z v s).len = s.len := rfl
@[simp] theorem driveOutputs_begun (x y z : Bool) (v : Half) (s : State) : (driveOutputs x y z v s).begun = s.begun := rfl
@[simp] theorem driveOutputs_done (x y z : Bool) (v : Half) (s : State) : (driveOutputs x y z v s).done = s.done := rfl
@[simp] theorem driveOutputs_baudok (x y z : Bool) (v : Half) (s : State) : (driveOutputs x y z v s).baudok = s.baudok := rfl
@[simp] theorem driveOutputs_junk (x y z : Bool) (v : Half) (s : State) : (driveOutputs x y z v s).junk = s.junk := rfl
@[simp] theorem driveOutputs_cReady (x y z : Bool) (v : Half) (s : State) : (driveOutputs x y z v s).cReady = x := rfl
@[simp] theorem driveOutputs_cFsClear (x y z : Bool) (v : Half) (s : State) : (driveOutputs x y z v s).cFsClear = y := rfl
@[simp] theorem driveOutputs_cBaudToggle (x y z : Bool) (v : Half) (s : State) : (driveOutputs x y z v s).cBaudToggle = z := rfl
@[simp] theorem driveOutputs_cVal (x y z : Bool) (v : Half) (s : State) : (driveOutputs x y z v s).cVal = v := rfl
@[simp] theorem driveOutputs_label (x y z : Bool) (v : Half) (s : State) : (driveOutputs x y z v s).label = s.label := rfl
@[simp] theorem driveOutputs_cfg (x y z : Bool) (v : Half) (s : State) : (driveOutputs x y z v s).cfg = s.cfg := rfl
@[simp] theorem driveOutputs_inputs (x y z : Bool) (v : Half) (s : State) : (driveOutputs x y z v s).inputs = s.inputs := rfl

@[simp] theorem idleOutputs_buf (s : State) : (idleOutputs s).buf = s.buf := rfl
@[simp] theorem idleOutputs_pos (s : State) : (idleOutputs s).pos = s.pos := rfl
@[simp] theorem idleOutputs_len (s : State) : (idleOutputs s).len = s.len := rfl
@[simp] theorem idleOutputs_begun (s : State) : (idleOutputs s).begun = s.begun := rfl
@[simp] theorem idleOutputs_done (s : State) : (idleOutputs s).done = s.done := rfl
@[simp] theorem idleOutputs_baudok (s : State) : (idleOutputs s).baudok = s.baudok := rfl
@[simp] theorem idleOutputs_junk (s : State) : (idleOutputs s).junk = s.junk := rfl
@[simp] theorem idleOutputs_cReady (s : State) : (idleOutputs s).cReady = false := rfl
@[simp] theorem idleOutputs_cFsClear (s : State) : (idleOutputs s).cFsClear = false := rfl
@[simp] theorem idleOutputs_cBaudToggle (s : State) : (idleOutputs s).cBaudToggle = false := rfl
@[simp] theorem idleOutputs_cVal (s : State) : (idleOutputs s).cVal = 0 := rfl
@[simp] theorem idleOutputs_label (s : State) : (idleOutputs s).label = s.label := rfl
@[simp] theorem idleOutputs_cfg (s : State) : (idleOutputs s).cfg = s.cfg := rfl
@[simp] theorem idleOutputs_inputs (s : State) : (idleOutputs s).inputs = s.inputs := rfl

@[simp] theorem takePins_buf (s : State) : (takePins s).buf = s.buf := rfl
@[simp] theorem takePins_pos (s : State) : (takePins s).pos = s.pos := rfl
@[simp] theorem takePins_len (s : State) : (takePins s).len = s.len := rfl
@[simp] theorem takePins_begun (s : State) : (takePins s).begun = s.begun := rfl
@[simp] theorem takePins_done (s : State) : (takePins s).done = s.done := rfl
@[simp] theorem takePins_baudok (s : State) : (takePins s).baudok = s.baudok := rfl
@[simp] theorem takePins_junk (s : State) : (takePins s).junk = s.junk := rfl
@[simp] theorem takePins_cReady (s : State) : (takePins s).cReady = s.cReady := rfl
@[simp] theorem takePins_cFsClear (s : State) : (takePins s).cFsClear = s.cFsClear := rfl
@[simp] theorem takePins_cBaudToggle (s : State) : (takePins s).cBaudToggle = s.cBaudToggle := rfl
@[simp] theorem takePins_cVal (s : State) : (takePins s).cVal = s.cVal := rfl
@[simp] theorem takePins_label (s : State) : (takePins s).label = s.label := rfl
@[simp] theorem takePins_cfg (s : State) : (takePins s).cfg = s.cfg := rfl
@[simp] theorem takePins_inputs (s : State) : (takePins s).inputs = s.inputs.tail := rfl

@[simp] theorem withLabel_buf (l : Option Label) (s : State) : (withLabel l s).buf = s.buf := rfl
@[simp] theorem withLabel_pos (l : Option Label) (s : State) : (withLabel l s).pos = s.pos := rfl
@[simp] theorem withLabel_len (l : Option Label) (s : State) : (withLabel l s).len = s.len := rfl
@[simp] theorem withLabel_begun (l : Option Label) (s : State) : (withLabel l s).begun = s.begun := rfl
@[simp] theorem withLabel_done (l : Option Label) (s : State) : (withLabel l s).done = s.done := rfl
@[simp] theorem withLabel_baudok (l : Option Label) (s : State) : (withLabel l s).baudok = s.baudok := rfl
@[simp] theorem withLabel_junk (l : Option Label) (s : State) : (withLabel l s).junk = s.junk := rfl
@[simp] theorem withLabel_cReady (l : Option Label) (s : State) : (withLabel l s).cReady = s.cReady := rfl
@[simp] theorem withLabel_cFsClear (l : Option Label) (s : State) : (withLabel l s).cFsClear = s.cFsClear := rfl
@[simp] theorem withLabel_cBaudToggle (l : Option Label) (s : State) : (withLabel l s).cBaudToggle = s.cBaudToggle := rfl
@[simp] theorem withLabel_cVal (l : Option Label) (s : State) : (withLabel l s).cVal = s.cVal := rfl
@[simp] theorem withLabel_label (l : Option Label) (s : State) : (withLabel l s).label = l := rfl
@[simp] theorem withLabel_cfg (l : Option Label) (s : State) : (withLabel l s).cfg = s.cfg := rfl
@[simp] theorem withLabel_inputs (l : Option Label) (s : State) : (withLabel l s).inputs = s.inputs := rfl

@[simp] theorem withoutTrace_buf (s : State) : (withoutTrace s).buf = s.buf := rfl
@[simp] theorem withoutTrace_pos (s : State) : (withoutTrace s).pos = s.pos := rfl
@[simp] theorem withoutTrace_len (s : State) : (withoutTrace s).len = s.len := rfl
@[simp] theorem withoutTrace_begun (s : State) : (withoutTrace s).begun = s.begun := rfl
@[simp] theorem withoutTrace_done (s : State) : (withoutTrace s).done = s.done := rfl
@[simp] theorem withoutTrace_baudok (s : State) : (withoutTrace s).baudok = s.baudok := rfl
@[simp] theorem withoutTrace_junk (s : State) : (withoutTrace s).junk = s.junk := rfl
@[simp] theorem withoutTrace_cReady (s : State) : (withoutTrace s).cReady = false := rfl
@[simp] theorem withoutTrace_cFsClear (s : State) : (withoutTrace s).cFsClear = false := rfl
@[simp] theorem withoutTrace_cBaudToggle (s : State) : (withoutTrace s).cBaudToggle = false := rfl
@[simp] theorem withoutTrace_cVal (s : State) : (withoutTrace s).cVal = 0 := rfl
@[simp] theorem withoutTrace_label (s : State) : (withoutTrace s).label = none := rfl
@[simp] theorem withoutTrace_cfg (s : State) : (withoutTrace s).cfg = s.cfg := rfl
@[simp] theorem withoutTrace_inputs (s : State) : (withoutTrace s).inputs = s.inputs := rfl

@[simp] theorem withStartMarker_buf (m : Byte) (s : State) : (withStartMarker m s).buf = s.buf := rfl
@[simp] theorem withStartMarker_pos (m : Byte) (s : State) : (withStartMarker m s).pos = s.pos := rfl
@[simp] theorem withStartMarker_len (m : Byte) (s : State) : (withStartMarker m s).len = s.len := rfl
@[simp] theorem withStartMarker_begun (m : Byte) (s : State) : (withStartMarker m s).begun = s.begun := rfl
@[simp] theorem withStartMarker_done (m : Byte) (s : State) : (withStartMarker m s).done = s.done := rfl
@[simp] theorem withStartMarker_baudok (m : Byte) (s : State) : (withStartMarker m s).baudok = s.baudok := rfl
@[simp] theorem withStartMarker_junk (m : Byte) (s : State) : (withStartMarker m s).junk = s.junk := rfl
@[simp] theorem withStartMarker_cReady (m : Byte) (s : State) : (withStartMarker m s).cReady = s.cReady := rfl
@[simp] theorem withStartMarker_cFsClear (m : Byte) (s : State) : (withStartMarker m s).cFsClear = s.cFsClear := rfl
@[simp] theorem withStartMarker_cBaudToggle (m : Byte) (s : State) : (withStartMarker m s).cBaudToggle = s.cBaudToggle := rfl
@[simp] theorem withStartMarker_cVal (m : Byte) (s : State) : (withStartMarker m s).cVal = s.cVal := rfl
@[simp] theorem withStartMarker_label (m : Byte) (s : State) : (withStartMarker m s).label = s.label := rfl
@[simp] theorem withStartMarker_cfg (m : Byte) (s : State) : (withStartMarker m s).cfg = ({ s.cfg with startMarker := m } : Config) := rfl
@[simp] theorem withStartMarker_inputs (m : Byte) (s : State) : (withStartMarker m s).inputs = s.inputs := rfl

/-! The poll without its output pins. -/

@[simp] theorem pollState_buf (s : State) : (pollState s).buf = s.buf := by
  unfold pollState; split <;> rfl
@[simp] theorem pollState_pos (s : State) : (pollState s).pos = s.pos := by
  unfold pollState; split <;> rfl
@[simp] theorem pollState_len (s : State) : (pollState s).len = s.len := by
  unfold pollState; split <;> rfl
theorem pollState_begun (s : State) : (pollState s).begun = if toggleDue s then false else s.begun := by
  unfold pollState; split <;> simp_all
@[simp] theorem pollState_done (s : State) : (pollState s).done = false := by
  unfold pollState; split <;> rfl
@[simp] theorem pollState_baudok (s : State) : (pollState s).baudok = s.baudok := by
  unfold pollState; split <;> rfl
theorem pollState_junk (s : State) : (pollState s).junk = if toggleDue s then 0 else s.junk := by
  unfold pollState; split <;> simp_all
@[simp] theorem pollState_cReady (s : State) : (pollState s).cReady = s.cReady := by
  unfold pollState; split <;> rfl
@[simp] theorem pollState_cFsClear (s : State) : (pollState s).cFsClear = s.cFsClear := by
  unfold pollState; split <;> rfl
@[simp] theorem pollState_cBaudToggle (s : State) : (pollState s).cBaudToggle = s.cBaudToggle := by
  unfold pollState; split <;> rfl
@[simp] theorem pollState_cVal (s : State) : (pollState s).cVal = s.cVal := by
  unfold pollState; split <;> rfl
@[simp] theorem pollState_label (s : State) : (pollState s).label = s.label := by
  unfold pollState; split <;> rfl
@[simp] theorem pollState_cfg (s : State) : (pollState s).cfg = s.cfg := by
  unfold pollState; split <;> rfl
@[simp] theorem pollState_inputs (s : State) : (pollState s).inputs = s.inputs := by
  unfold pollState; split <;> rfl

/-! The post-RST state. -/

@[simp] theorem resetWith_buf (cfg : Config) : (State.resetWith cfg).buf = [] := rfl
@[simp] theorem resetWith_pos (cfg : Config) : (State.resetWith cfg).pos = 0 := rfl
@[simp] theorem resetWith_len (cfg : Config) : (State.resetWith cfg).len = 0 := rfl
@[simp] theorem resetWith_begun (cfg : Config) : (State.resetWith cfg).begun = false := rfl
@[simp] theorem resetWith_done (cfg : Config) : (State.resetWith cfg).done = false := rfl
@[simp] theorem resetWith_baudok (cfg : Config) : (State.resetWith cfg).baudok = false := rfl
@[simp] theorem resetWith_junk (cfg : Config) : (State.resetWith cfg).junk = 0 := rfl
@[simp] theorem resetWith_cReady (cfg : Config) : (State.resetWith cfg).cReady = false := rfl
@[simp] theorem resetWith_cFsClear (cfg : Config) : (State.resetWith cfg).cFsClear = false := rfl
@[simp] theorem resetWith_cBaudToggle (cfg : Config) : (State.resetWith cfg).cBaudToggle = false := rfl
@[simp] theorem resetWith_cVal (cfg : Config) : (State.resetWith cfg).cVal = 0 := rfl
@[simp] theorem resetWith_label (cfg : Config) : (State.resetWith cfg).label = none := rfl
@[simp] theorem resetWith_cfg (cfg : Config) : (State.resetWith cfg).cfg = cfg := rfl
@[simp] theorem resetWith_inputs (cfg : Config) : (State.resetWith cfg).inputs = [] := rfl

end Sys2Proof.Machine
end

