-- ==== Sys2Proof/Laws/Ops.lean ====
section
/-! SUPPORT. What each shared operation can do, said once. -/

namespace Sys2Proof.Machine

/-! ## Arithmetic of the registers -/

theorem sat16_toNat (n : Nat) : (sat16 n).toNat = min n 65535 := by
  unfold sat16
  rw [BitVec.toNat_ofNat]
  omega

/-- The cursor does not wrap inside the buffer. -/
theorem pos_succ_toNat {p : BitVec 7} (h : p.toNat < 70) : (p + 1).toNat = p.toNat + 1 := by
  bv_omega

theorem rejectedJunk_junk (s : State) : (rejectedJunk .junk s).toNat = min (s.junk.toNat + 1) 65535 :=
  sat16_toNat _

theorem rejectedJunk_checksum (s : State) :
    (rejectedJunk .checksum s).toNat = min (s.junk.toNat + s.len.toNat) 65535 :=
  sat16_toNat _

/-- The three aborts leave JUNK unchanged (60_exceptions.md R112). -/
theorem rejectedJunk_abort {e : Reject} (h : e = .oversize ∨ e = .short ∨ e = .packetType) (s : State) :
    rejectedJunk e s = s.junk := by
  rcases h with rfl | rfl | rfl <;> rfl

/-! ## The store -/

/-- What a store answers. -/
theorem storeByte_cases (c : Byte) (s : State) :
    (s.pos.toNat < 70 ∧ storeByte c s = .ok (storeAndAdvance c s)) ∨
    (70 ≤ s.pos.toNat ∧ storeByte c s = .error (.bufferOverrun s.pos.toNat)) := by
  unfold storeByte
  by_cases h : s.pos.toNat < Config.cap
  · exact .inl ⟨h, if_pos h⟩
  · exact .inr ⟨Nat.le_of_not_lt h, if_neg h⟩

theorem storeByte_inside {c : Byte} {s : State} (h : s.pos.toNat < 70) :
    storeByte c s = .ok (storeAndAdvance c s) := if_pos h

theorem storeByte_outside {c : Byte} {s : State} (h : 70 ≤ s.pos.toNat) :
    storeByte c s = .error (.bufferOverrun s.pos.toNat) := if_neg (Nat.not_lt.2 h)

/-! ## The checks after the store -/

theorem frameComplete_iff (s : State) : frameComplete s = true ↔ s.pos.toNat = s.len.toNat := by
  simp [frameComplete]

theorem frameValid_iff (s : State) : frameValid s = true ↔ Memory.fold s.buf s.len.toNat = 0x0000 := by
  simp [frameValid]

theorem toggleDue_iff (s : State) : toggleDue s = true ↔ s.baudok = false ∧ 1000 < s.junk.toNat := by
  simp [toggleDue, Config.junkThreshold]

/-- The completion step: not complete, accepted or rejected (41_frame_assembler.md R83 to R85). -/
theorem completeFrame_cases (s : State) :
    (s.pos.toNat ≠ s.len.toNat ∧ completeFrame s = withLabel (some .stored) s) ∨
    (s.pos.toNat = s.len.toNat ∧ Memory.fold s.buf s.len.toNat = 0x0000 ∧ completeFrame s = acceptFrame s) ∨
    (s.pos.toNat = s.len.toNat ∧ Memory.fold s.buf s.len.toNat ≠ 0x0000 ∧
      completeFrame s = reject .checksum s) := by
  unfold completeFrame
  by_cases h : frameComplete s = true
  · rw [if_pos h]
    rw [frameComplete_iff] at h
    by_cases g : frameValid s = true
    · rw [if_pos g]
      exact .inr (.inl ⟨h, (frameValid_iff s).1 g, rfl⟩)
    · rw [if_neg g]
      exact .inr (.inr ⟨h, fun e => g ((frameValid_iff s).2 e), rfl⟩)
  · rw [if_neg h]
    exact .inl ⟨fun e => h ((frameComplete_iff s).2 e), rfl⟩

/-- The state on which the completion test runs: at position 2 LEN holds the byte (41_frame_assembler.md R80). -/
def withLength (p : Nat) (c : Byte) (s : State) : State := if p = 2 then { s with len := c } else s

/-- The checks in their fixed order: oversize, short, type, completion (41_frame_assembler.md R86). -/
theorem checkStored_cases (p : Nat) (c : Byte) (s : State) :
    (p = 2 ∧ 70 < c.toNat ∧ checkStored p c s = reject .oversize { s with len := c }) ∨
    (p = 2 ∧ c.toNat < 3 ∧ checkStored p c s = reject .short { s with len := c }) ∨
    (p = 4 ∧ c ≠ s.cfg.rcType ∧ checkStored p c s = reject .packetType s) ∨
    ((p = 2 → 3 ≤ c.toNat ∧ c.toNat ≤ 70) ∧ (p = 4 → c = s.cfg.rcType) ∧
      checkStored p c s = completeFrame (withLength p c s)) := by
  unfold checkStored takeLength withLength
  simp only [Config.lenPos, Config.typePos, Config.cap, Config.leastLen]
  by_cases h2 : p = 2
  · subst h2
    by_cases hc : 70 < c.toNat
    · simp [hc]
    · by_cases h3 : c.toNat < 3
      · simp [hc, h3]
      · simp [hc, h3]; omega
  · by_cases h4 : p = 4 ∧ c ≠ s.cfg.rcType
    · simp [h4]
    · simp only [h2, h4, if_false]
      simp_all

/-! ## RXBYTE -/

/-- The state a byte is stored on: the state itself in Assembling, a fresh attempt for a start marker in Seeking. -/
def attemptState (s : State) : State := if s.begun then s else beginAttempt s

/-- What RXBYTE answers, in every state: junk, the checks on the stored byte, or the store outside the buffer. -/
theorem execRxbyte_cases (c : Byte) (s : State) :
    (s.begun = false ∧ c ≠ s.cfg.startMarker ∧ execRxbyte c s = .next (reject .junk s)) ∨
    ((s.begun = true ∨ c = s.cfg.startMarker) ∧ (attemptState s).pos.toNat < 70 ∧
      execRxbyte c s = .next (checkStored (attemptState s).pos.toNat c (storeAndAdvance c (attemptState s)))) ∨
    (s.begun = true ∧ 70 ≤ s.pos.toNat ∧ execRxbyte c s = .fault (.bufferOverrun s.pos.toNat)) := by
  unfold execRxbyte assemble attemptState
  by_cases hb : s.begun = true
  · by_cases hp : s.pos.toNat < 70
    · simp [hb, hp, storeByte_inside]
    · simp [hb, storeByte_outside (Nat.le_of_not_lt hp), Nat.le_of_not_lt hp, hp]
  · by_cases hm : c = s.cfg.startMarker
    · simp [hb, hm, storeByte_inside (c := s.cfg.startMarker) (s := beginAttempt s) (by simp)]
    · simp [hb, hm]

/-- If RXBYTE goes on, the byte was junk or it was stored inside the buffer and checked. -/
theorem execRxbyte_next {c : Byte} {s t : State} (h : execRxbyte c s = .next t) :
    (s.begun = false ∧ c ≠ s.cfg.startMarker ∧ t = reject .junk s) ∨
    ((s.begun = true ∨ c = s.cfg.startMarker) ∧ (attemptState s).pos.toNat < 70 ∧
      t = checkStored (attemptState s).pos.toNat c (storeAndAdvance c (attemptState s))) := by
  rcases execRxbyte_cases c s with ⟨a, b, e⟩ | ⟨a, b, e⟩ | ⟨_, _, e⟩ <;> rw [h] at e
  · exact .inl ⟨a, b, by simpa using e⟩
  · exact .inr ⟨a, b, by simpa using e⟩
  · cases e

/-! ## Sequencing -/

@[simp] theorem andThen_next (s : State) (f : State → Host.Outcome State Fault Refusal) :
    andThen (.next s) f = f s := rfl

@[simp] theorem andThen_fault (r : Fault) (f : State → Host.Outcome State Fault Refusal) :
    andThen (.fault r) f = .fault r := rfl

@[simp] theorem andThen_refused (r : Refusal) (f : State → Host.Outcome State Fault Refusal) :
    andThen (.refused r) f = .refused r := rfl

/-- A sequence that goes on went on at its first part. -/
theorem andThen_eq_next {o : Host.Outcome State Fault Refusal} {f : State → Host.Outcome State Fault Refusal}
    {t : State} (h : andThen o f = .next t) : ∃ s, o = .next s ∧ f s = .next t := by
  cases o with
  | next s => exact ⟨s, rfl, h⟩
  | fault r => cases h
  | refused r => cases h

/-- The consumer's and the reset port's operations always go on. -/
theorem exec_completes {i : Instr} (h : ∀ c, i ≠ .rxbyte c) (s : State) : ∃ t, exec i s = .next t := by
  cases i <;> first | exact ⟨_, rfl⟩ | exact absurd rfl (h _)

/-- What a cycle that goes on did: RST, or the reset port's idle code, the producer's and the consumer's
operation in turn (30_encoding.md R53). -/
theorem runCycle_next {k : Cycle} {s t : State} (h : runCycle k s = .next t) :
    (k.reset = .rst ∧ exec .rst s = .next t) ∨
    (k.reset ≠ .rst ∧ ∃ s1 s2, exec k.reset s = .next s1 ∧ exec k.producer s1 = .next s2 ∧
      exec k.consumer s2 = .next t) := by
  unfold runCycle at h
  split at h
  · next hr => exact .inl ⟨hr, h⟩
  · next hr =>
    obtain ⟨s1, h1, h'⟩ := andThen_eq_next h
    obtain ⟨s2, h2, h3⟩ := andThen_eq_next h'
    exact .inr ⟨hr, s1, s2, h1, h2, h3⟩

@[simp] theorem execAll_nil (s : State) : execAll [] s = .next s := rfl

@[simp] theorem execAll_cons (i : Instr) (is : List Instr) (s : State) :
    execAll (i :: is) s = andThen (exec i s) (execAll is) := rfl

/-- A run over two sequences is the second run after the first (20_memory.md R39). -/
theorem execAll_append (is js : List Instr) (s : State) :
    execAll (is ++ js) s = andThen (execAll is s) (execAll js) := by
  induction is generalizing s with
  | nil => rfl
  | cons i is ih =>
    simp only [List.cons_append, execAll_cons]
    cases exec i s with
    | next u => exact ih u
    | fault r => rfl
    | refused r => rfl

/-! ## The consumer's operations -/

theorem channelInRange_iff (r : Byte) : channelInRange r = true ↔ r.toNat < 16 := by
  simp [channelInRange, Config.channels]

/-- RDCH's position is `6 + 2 * r`, inside the buffer (20_memory.md R34). -/
theorem channelPosition_toNat {r : Byte} (h : r.toNat < 16) : (channelPosition r).toNat = 6 + 2 * r.toNat := by
  unfold channelPosition Config.payloadBase
  rw [BitVec.toNat_add, BitVec.toNat_shiftLeft, BitVec.toNat_setWidth, BitVec.toNat_ofNat, Nat.shiftLeft_eq]
  omega

end Sys2Proof.Machine
end

