-- ==== Sys2Proof/Laws/PerInstr.lean ====
section
/-! SUPPORT. The family of facts about the operations as syntax: an operation's word fits its port. -/

namespace Sys2Proof.Laws

/-- The operation's word has the width of its port (30_encoding.md R52). -/
def EncodingFitsPort.Statement (i : Instr) : Prop := encodeWord i < 2 ^ i.port.width

theorem EncodingFitsPort.rst : EncodingFitsPort.Statement .rst := by unfold EncodingFitsPort.Statement; decide
theorem EncodingFitsPort.norst : EncodingFitsPort.Statement .norst := by unfold EncodingFitsPort.Statement; decide
theorem EncodingFitsPort.rxbyte (c : Byte) : EncodingFitsPort.Statement (.rxbyte c) := (1#1 ++ c).isLt
theorem EncodingFitsPort.pidle : EncodingFitsPort.Statement .pidle := by unfold EncodingFitsPort.Statement; decide
theorem EncodingFitsPort.cidle : EncodingFitsPort.Statement .cidle := by unfold EncodingFitsPort.Statement; decide
theorem EncodingFitsPort.poll : EncodingFitsPort.Statement .poll := by unfold EncodingFitsPort.Statement; decide
theorem EncodingFitsPort.rdch (r : Byte) (mid : Half) : EncodingFitsPort.Statement (.rdch r mid) :=
  (2#2 ++ r ++ mid).isLt
theorem EncodingFitsPort.crsv : EncodingFitsPort.Statement .crsv := by unfold EncodingFitsPort.Statement; decide

end Sys2Proof.Laws
end

