-- ==== Sys2Proof/Tests/Slice0.lean ====
section
/-! SUPPORT. Tests: the well-formedness smoke, words written out from 30_encoding.md R52, vectors of
95_test_vectors.md, and for every statement with hypotheses a state and operands that meet them. -/

namespace Sys2Proof.Tests

open Sys2Proof.Machine

/-! ## Well-formedness: each check refuses an ill-formed cycle -/

theorem test_wf_accepts : (Cycle.mk .norst (.rxbyte 0x3E) .poll).wellFormed = true := by decide
theorem test_wf_reset_slot : (Cycle.mk .poll .pidle .cidle).wellFormed = false := by decide
theorem test_wf_producer_slot : (Cycle.mk .norst .poll .cidle).wellFormed = false := by decide
theorem test_wf_consumer_slot : (Cycle.mk .norst .pidle (.rxbyte 0x3E)).wellFormed = false := by decide

/-! ## Decoding: one word per row, bit by bit from 30_encoding.md R52 -/

theorem test_decode_rst : decodeTableWord 8 0b1 = some .rst := by decide
theorem test_decode_norst : decodeTableWord 8 0b0 = some .norst := by decide
theorem test_decode_rxbyte : decodeTableWord 16 0b100111110 = some (.rxbyte 0x3E) := by decide
theorem test_decode_pidle : decodeTableWord 16 0b011111111 = some .pidle := by decide
theorem test_decode_cidle : decodeTableWord 32 0b00111111110000000000000001 = some .cidle := by decide
theorem test_decode_poll : decodeTableWord 32 0b01000000000000000000000000 = some .poll := by decide
theorem test_decode_rdch : decodeTableWord 32 0b10000011110000010111011100 = some (.rdch 15 1500) := by decide
theorem test_decode_crsv : decodeTableWord 32 0b11000000000000000000000000 = some .crsv := by decide
theorem test_decode_rejects_wide_word : decodeTableWord 16 0x200 = none := by decide
theorem test_decode_rejects_byte_count : decode [0, 0, 0] = .error (.byteCount 3) := by decide
theorem test_encode_rdch : encode (.rdch 15 1500) = [0xDC, 0x05, 0x0F, 0x02] := by decide

/-! ## The Checksum Engine: 95_test_vectors.md X3, X8, V14, V15 -/

theorem test_crc_x3 : crcUpd 0x0000 0x3E = 0xD8FD := by decide
theorem test_crc_x8 : crcUpd 0x1234 0x56 = 0x4006 := by decide
theorem test_fold_v14 : crcFold [0x01, 0x02, 0x03, 0xF7, 0x5B] = 0x0000 := by decide
theorem test_fold_v15 : crcFold [0x01, 0x02, 0x03, 0x5B, 0xF7] = 0x6939 := by decide

/-! ## Small states -/

/-- Assembling with the cursor and length given and a buffer that begins `3E 03 07`. -/
def attempt (pos : BitVec 7) (len : Byte) : State :=
  { State.reset with begun := true, pos := pos, len := len, buf := [(0, 0x3E), (1, 0x03), (2, 0x07)] }

/-- Frame F7 of 95_test_vectors.md in the buffer. -/
def bufF7 : Memory := [(0, 0x3E), (1, 0x03), (2, 0x07), (4, 0x31), (5, 0xAB), (6, 0x3C)]

/-- The state after F7 was accepted and before any POLL (95_test_vectors.md V21). -/
def accepted : State := { State.reset with buf := bufF7, pos := 7, len := 7, done := true, baudok := true }

/-- The state one byte before the end of F7 (V21, step 6). -/
def lastByte : State :=
  { State.reset with begun := true, pos := 6, len := 7, buf := [(0, 0x3E), (1, 0x03), (2, 0x07), (4, 0x31), (5, 0xAB)] }

/-- Channel 15 holds `FF FF` (V51). -/
def channel15 : State := { State.reset with baudok := true, buf := [(36, 0xFF), (37, 0xFF)] }

/-- Seeking with the junk count given and no frame ever accepted. -/
def seekingWith (junk : BitVec 16) : State := { State.reset with junk := junk }

/-- Pins with `rst = 1`, a byte and a POLL in one cycle (V61). -/
def resetPins : Pins := { rst := 1, rxValid := 1, rxData := 0x3E, cOp := 1, cIdx := 0, cMid := 0 }

/-- Pins with a byte and a POLL in one cycle. -/
def bothPins (c : Byte) : Pins := { rst := 0, rxValid := 1, rxData := c, cOp := 1, cIdx := 0, cMid := 0 }

theorem reset_inv : StateInv State.reset := by constructor <;> decide
theorem attempt_pos1_inv : StateInv (attempt 1 7) := by constructor <;> decide
theorem attempt_pos2_inv : StateInv (attempt 2 7) := by constructor <;> decide
theorem attempt_pos4_inv : StateInv (attempt 4 7) := by constructor <;> decide
theorem lastByte_inv : StateInv lastByte := by constructor <;> decide
theorem accepted_inv : StateInv accepted := by constructor <;> decide

/-! ## One step each, from the vectors -/

/-- 95_test_vectors.md V62: RST from a full state. -/
theorem test_rst : ∃ t, exec .rst accepted = .next t ∧ t = State.reset := ⟨_, rfl, by decide⟩

/-- 95_test_vectors.md V24: the junk counter saturates. -/
theorem test_rxbyte_junk_saturates : ∃ t, exec (.rxbyte 0x00) (seekingWith 65535) = .next t ∧ t.junk = 65535 :=
  ⟨_, rfl, by decide⟩

/-- 95_test_vectors.md V21, step 7: F7 is accepted at its last byte. -/
theorem test_rxbyte_accept :
    ∃ t, exec (.rxbyte 0x3C) lastByte = .next t ∧ t.done = true ∧ t.baudok = true ∧ t.begun = false ∧
      t.label = some .accept := ⟨_, rfl, by decide⟩

/-- 95_test_vectors.md V45: a toggle during an attempt. -/
theorem test_poll_toggle :
    ∃ t, exec .poll { attempt 2 7 with junk := 1001 } = .next t ∧ t.cBaudToggle = true ∧ t.junk = 0 ∧
      t.begun = false ∧ t.pos = 2 := ⟨_, rfl, by decide⟩

/-- 95_test_vectors.md V42: 1000 is not above the threshold. -/
theorem test_poll_no_toggle :
    ∃ t, exec .poll (seekingWith 1000) = .next t ∧ t.cBaudToggle = false ∧ t.junk = 1000 := ⟨_, rfl, by decide⟩

/-- 95_test_vectors.md V51: the 17-bit sum does not wrap. -/
theorem test_rdch_top : ∃ t, exec (.rdch 15 1500) channel15 = .next t ∧ t.cVal = 8192 := ⟨_, rfl, by decide⟩

/-- 95_test_vectors.md V52: the first index out of range. -/
theorem test_rdch_out_of_range : ∃ t, exec (.rdch 16 1500) channel15 = .next t ∧ t.cVal = 1500 := ⟨_, rfl, by decide⟩

/-- 95_test_vectors.md V61: the byte and the POLL of the reset cycle are lost. -/
theorem test_step_reset_cycle :
    ∃ t, step { accepted with inputs := [resetPins] } = .next t ∧ t = State.reset := ⟨_, rfl, by decide⟩

/-- 20_memory.md R40: the POLL of the completing byte's cycle reports the frame. -/
theorem test_step_same_cycle :
    ∃ t, step { lastByte with inputs := [bothPins 0x3C] } = .next t ∧ t.cReady = true ∧ t.done = false :=
  ⟨_, rfl, by decide⟩

/-- 30_encoding.md R57: the trace line of RDCH. -/
theorem test_trace_rdch : traceLine (.rdch 0 1500) = some "RDCH 0, 1500" := by decide

/-! ## Witnesses: the hypotheses of the statements can be met -/

theorem witness_DecodedPinsOfACycleAreTheCycle : (Cycle.mk .rst (.rxbyte 0xFF) (.rdch 255 65535)).wellFormed = true := by
  decide

theorem witness_EveryPortWordSelectsOneRow :
    1 < 2 ^ Port.reset.width ∧ 511 < 2 ^ Port.producer.width ∧ 0x3FFFFFF < 2 ^ Port.consumer.width := by decide

theorem witness_StepRunsThePresentedOperations :
    { accepted with inputs := [resetPins] }.inputs = resetPins :: [] ∧ resetPins.rst = 1#1 ∧
    { lastByte with inputs := [bothPins 0x3C] }.inputs = bothPins 0x3C :: [] ∧ (bothPins 0x3C).rst ≠ 1#1 := by decide

theorem witness_NothingPresentedIsAnIdleCycle : accepted.inputs = [] := by decide

theorem witness_ProducerComesBeforeConsumer :
    { lastByte with inputs := [bothPins 0x3C] }.inputs = bothPins 0x3C :: [] ∧ (bothPins 0x3C).rst = 0#1 ∧
    (bothPins 0x3C).rxValid = 1#1 ∧ (bothPins 0x3C).rxData = 0x3C ∧
    ∃ u, exec (.rxbyte 0x3C) { lastByte with inputs := [] } = .next u :=
  ⟨rfl, rfl, rfl, rfl, _, rfl⟩

theorem witness_ResetPinOverridesBothPorts :
    { accepted with inputs := [resetPins] }.inputs = resetPins :: [] ∧ resetPins.rst = 1#1 := by decide

/-- A cycle for each clause: RST, a cycle with neither POLL nor RDCH. -/
theorem witness_OutputsAreIdleUnlessDriven :
    (∃ t, step { accepted with inputs := [resetPins] } = .next t) ∧
    (nextPins { accepted with inputs := [resetPins] }).rst = 1#1 ∧
    (∃ t, step accepted = .next t) ∧ (nextPins accepted).cOp ≠ 1#2 ∧ (nextPins accepted).cOp ≠ 2#2 :=
  ⟨⟨_, rfl⟩, by decide, ⟨_, rfl⟩, by decide, by decide⟩

theorem witness_CyclesRealiseTheOrderOfOperations :
    { State.reset with inputs := [onlyOperation (.rxbyte 0x3E), onlyOperation .poll, Pins.idle] }.inputs =
      [Instr.rxbyte 0x3E, .poll].map onlyOperation ++ [Pins.idle] := by decide

theorem witness_RstZeroesTheBlock :
    ∃ t, exec .rst accepted = .next t ∧ accepted.baudok = true ∧ t.baudok = false := ⟨_, rfl, by decide⟩

theorem witness_SeekingDiscardsAJunkByte :
    (seekingWith 65535).begun = false ∧ (0x3F : Byte) ≠ (seekingWith 65535).cfg.startMarker := by decide

theorem witness_SeekingStartsAnAttempt :
    accepted.begun = false ∧ (0x3E : Byte) = accepted.cfg.startMarker ∧ Memory.wf accepted.buf = true := by decide

/-- The lowest and the highest cursor. -/
theorem witness_AssemblingStoresEveryByte :
    (attempt 0 7).begun = true ∧ (attempt 0 7).pos.toNat < 70 ∧ Memory.wf (attempt 0 7).buf = true ∧
    (attempt 69 70).begun = true ∧ (attempt 69 70).pos.toNat < 70 ∧ Memory.wf (attempt 69 70).buf = true := by decide

theorem witness_AssemblingStoresEveryByte_inv : StateInv (attempt 4 7) ∧ (attempt 4 7).begun = true :=
  ⟨attempt_pos4_inv, rfl⟩

/-- The boundary bytes of each clause. -/
theorem witness_LengthByteOutOfRangeAborts :
    (attempt 2 7).begun = true ∧ (attempt 2 7).pos = 2 ∧ Memory.wf (attempt 2 7).buf = true ∧
    70 < (71 : Byte).toNat ∧ 70 < (255 : Byte).toNat ∧ (0 : Byte).toNat < 3 ∧ (2 : Byte).toNat < 3 ∧
    (70 : Byte).toNat = 70 := by decide

theorem witness_LengthByteOutOfRangeAborts_inv : StateInv (attempt 2 7) := attempt_pos2_inv

theorem witness_WrongPacketTypeAborts :
    (attempt 4 7).begun = true ∧ (attempt 4 7).pos = 4 ∧ (0x3A : Byte) ≠ (attempt 4 7).cfg.rcType ∧
    Memory.wf (attempt 4 7).buf = true := by decide

/-- A length byte of 4, the least that goes on, and a right type byte. -/
theorem witness_ByteBeforeTheLastIsStored :
    (attempt 2 7).begun = true ∧ (attempt 2 7).pos.toNat < 70 ∧ 3 ≤ (4 : Byte).toNat ∧ (4 : Byte).toNat ≤ 70 ∧
    (attempt 2 7).pos.toNat + 1 < (lengthAfter 4 (attempt 2 7)).toNat ∧
    (0x31 : Byte) = (attempt 4 7).cfg.rcType ∧ (attempt 4 7).pos.toNat + 1 < (lengthAfter 0x31 (attempt 4 7)).toNat := by
  decide

theorem witness_CompletedFrameWithZeroFoldIsAccepted :
    lastByte.begun = true ∧ lastByte.pos.toNat < 70 ∧ (lastByte.pos.toNat = 4 → (0x3C : Byte) = lastByte.cfg.rcType) ∧
    lastByte.pos.toNat + 1 = (lengthAfter 0x3C lastByte).toNat ∧
    Memory.fold (bufferAfter 0x3C lastByte) (lengthAfter 0x3C lastByte).toNat = 0x0000 := by decide

/-- A wrong last byte, and a length byte of 3 that completes its own frame. -/
theorem witness_CompletedFrameWithNonzeroFoldIsRejected :
    lastByte.begun = true ∧ lastByte.pos.toNat < 70 ∧ (lastByte.pos.toNat = 4 → (0x3D : Byte) = lastByte.cfg.rcType) ∧
    lastByte.pos.toNat + 1 = (lengthAfter 0x3D lastByte).toNat ∧
    Memory.fold (bufferAfter 0x3D lastByte) (lengthAfter 0x3D lastByte).toNat ≠ 0x0000 ∧
    (attempt 2 7).pos.toNat + 1 = (lengthAfter 3 (attempt 2 7)).toNat ∧
    Memory.fold (bufferAfter 3 (attempt 2 7)) (lengthAfter 3 (attempt 2 7)).toNat ≠ 0x0000 := by decide

theorem witness_CompletedFrameWithNonzeroFoldIsRejected_inv : StateInv lastByte := lastByte_inv

theorem witness_MarkerInsideAnAttemptIsData : (attempt 1 7).begun = true := by decide

theorem witness_OnlyAStoreOutsideTheBufferStops :
    exec (.rxbyte 0) (attempt 70 80) = .fault (.bufferOverrun 70) := rfl

theorem witness_AttemptEndsWithinTheCapacity :
    StateInv (attempt 1 7) ∧ (attempt 1 7).begun = true ∧
    (List.replicate 69 (0x46 : Byte)).length = 70 - (attempt 1 7).pos.toNat :=
  ⟨attempt_pos1_inv, rfl, rfl⟩

/-- Frame F7, at the least length of the statement. -/
theorem witness_WellFormedFrameIsAccepted :
    StateInv State.reset ∧ State.reset.begun = false ∧
    7 ≤ [0x3E, 0x03, 0x07, 0x00, 0x31, 0xAB, (0x3C : Byte)].length ∧
    [0x3E, 0x03, 0x07, 0x00, 0x31, 0xAB, (0x3C : Byte)].length ≤ 70 ∧
    [0x3E, 0x03, 0x07, 0x00, 0x31, 0xAB, (0x3C : Byte)][0]? = some State.reset.cfg.startMarker ∧
    [0x3E, 0x03, 0x07, 0x00, 0x31, 0xAB, (0x3C : Byte)][2]? = some (BitVec.ofNat 8 7) ∧
    [0x3E, 0x03, 0x07, 0x00, 0x31, 0xAB, (0x3C : Byte)][4]? = some State.reset.cfg.rcType ∧
    crcFold [0x3E, 0x03, 0x07, 0x00, 0x31, 0xAB, 0x3C] = 0x0000 :=
  ⟨reset_inv, by decide, by decide, by decide, by decide, by decide, by decide, by decide⟩

/-- A frame of 70 bytes, the greatest length of the statement (95_test_vectors.md V22). -/
def frame70 : List Byte :=
  [0x3E, 0x01, 0x46, 0x00, 0x31, 0x40] ++ (List.range 62).map (fun i => BitVec.ofNat 8 (7 * i + 1)) ++ [0x76, 0x75]

set_option maxRecDepth 4000 in
theorem witness_WellFormedFrameIsAccepted_longest :
    StateInv accepted ∧ accepted.begun = false ∧ frame70.length = 70 ∧
    frame70[0]? = some accepted.cfg.startMarker ∧ frame70[2]? = some (BitVec.ofNat 8 70) ∧
    frame70[4]? = some accepted.cfg.rcType ∧ crcFold frame70 = 0x0000 :=
  ⟨accepted_inv, by decide, by decide, by decide, by decide, by decide, by decide⟩

/-- The least and the greatest length; no byte after the fifth, and one. -/
theorem witness_FrameOfAnotherTypeIsDropped :
    StateInv accepted ∧ accepted.begun = false ∧ 5 ≤ (5 : Byte).toNat ∧ (5 : Byte).toNat ≤ 70 ∧
    5 ≤ (70 : Byte).toNat ∧ (70 : Byte).toNat ≤ 70 ∧
    (0x3A : Byte) ≠ accepted.cfg.rcType ∧ accepted.cfg.startMarker ∉ ([] : List Byte) ∧
    accepted.cfg.startMarker ∉ [(0x31 : Byte)] :=
  ⟨accepted_inv, by decide, by decide, by decide, by decide, by decide, by decide, by decide, by decide⟩

/-- The worked example of 40_checksum.md R66: `crc = 0x0000`, `data = 0x3E`, `d1 = 0x3E`, `e = 0xDE`, `h = 0x00`. -/
theorem witness_ChecksumUpdatePerBit :
    (0x3E : BitVec 8) = 0x3E ^^^ (0x0000 : BitVec 16).extractLsb' 0 8 ∧
    (0x00 : BitVec 8) = (0x0000 : BitVec 16).extractLsb' 8 8 ∧
    (0xDE : BitVec 8).extractLsb' 4 4 = (0x3E : BitVec 8).extractLsb' 4 4 ^^^ (0x3E : BitVec 8).extractLsb' 0 4 ∧
    (0xDE : BitVec 8).extractLsb' 0 4 = (0x3E : BitVec 8).extractLsb' 0 4 := by decide

/-- The first bit of F7's first byte and the last bit of its last byte. -/
theorem witness_FlippedBitIsDetected :
    crcFold [0x3E, 0x03, 0x07, 0x00, 0x31, 0xAB, 0x3C] = 0x0000 ∧
    0 < [0x3E, 0x03, 0x07, 0x00, 0x31, 0xAB, (0x3C : Byte)].length ∧ 0 < 8 ∧
    6 < [0x3E, 0x03, 0x07, 0x00, 0x31, 0xAB, (0x3C : Byte)].length ∧ 7 < 8 := by decide

theorem witness_RunningChecksumIsTheFold : Memory.wf bufF7 = true ∧ 0 < 70 ∧ 69 < 70 := by decide

theorem witness_BuffersThatReadAlikeAreEqual :
    Memory.wf bufF7 = true ∧ Memory.wf (Memory.write bufF7 3 0x00) = true ∧
    ∀ a : Nat, a < 70 → Memory.read bufF7 a = Memory.read (Memory.write bufF7 3 0x00) a := by decide

/-- A toggle, and a state of the invariant with DONE set. -/
theorem witness_PollReadsAndClears :
    (seekingWith 1001).baudok = false ∧ 1000 < (seekingWith 1001).junk.toNat ∧ accepted.done = true := by decide

theorem witness_ReadyMeansAValidFrame : StateInv accepted ∧ accepted.done = true := ⟨accepted_inv, rfl⟩

theorem witness_StartMarkerLosesAnUnpolledFrame : accepted.begun = false := by decide

/-- Indices 15 and 16 on the two sides of the range. -/
theorem witness_RdchAnswersTheChannel :
    (15 : Byte).toNat < 16 ∧ channel15.baudok = true ∧ 16 ≤ (16 : Byte).toNat ∧ State.reset.baudok = false := by decide

theorem witness_RdchAnswersTheNeutralValue :
    (16 ≤ (16 : Byte).toNat ∨ channel15.baudok = false) ∧ (16 ≤ (0 : Byte).toNat ∨ State.reset.baudok = false) := by
  decide

/-- Two different states that agree on BAUDOK and channel 15's bytes. -/
theorem witness_RdchDependsOnTwoBytes :
    channel15.baudok = { channel15 with junk := 9, buf := [(6, 1), (36, 0xFF), (37, 0xFF)] }.baudok ∧
    Memory.read channel15.buf (6 + 2 * (15 : Byte).toNat) =
      Memory.read [(6, 1), (36, 0xFF), (37, 0xFF)] (6 + 2 * (15 : Byte).toNat) ∧
    Memory.read channel15.buf (7 + 2 * (15 : Byte).toNat) =
      Memory.read [(6, 1), (36, 0xFF), (37, 0xFF)] (7 + 2 * (15 : Byte).toNat) := by decide

theorem witness_TicksRoundToNearestMicrosecond :
    (0 : Half).toNat ≤ 3 ∧ (3 : Half).toNat ≤ 3 ∧ 4 ≤ (4 : Half).toNat ∧ (11 : Half).toNat ≤ 11 := by decide

/-- Each of the consumer's writes happens: DONE, JUNK and BEGUN. -/
theorem witness_ConsumerWritesOnlyItsFlags :
    Instr.port .poll = .consumer ∧ (∃ t, exec .poll accepted = .next t ∧ t.done ≠ accepted.done) ∧
    ∃ t, exec .poll { attempt 2 7 with junk := 1001 } = .next t ∧ t.junk ≠ 1001 ∧ t.begun ≠ true :=
  ⟨rfl, ⟨_, rfl, by decide⟩, _, rfl, by decide⟩

theorem witness_DoneIsSetOnlyByAnAcceptedFrame :
    (∃ t, exec (.rxbyte 0x3C) lastByte = .next t ∧ lastByte.done = false ∧ t.done = true) ∧
    (∃ t, exec .poll accepted = .next t ∧ accepted.done = true ∧ t.done = false) ∧
    (∃ t, exec .rst accepted = .next t ∧ accepted.done = true ∧ t.done = false) ∧
    (∃ t, exec (.rxbyte 0x3E) accepted = .next t ∧ accepted.done = true ∧ t.done = false) :=
  ⟨⟨_, rfl, by decide⟩, ⟨_, rfl, by decide⟩, ⟨_, rfl, by decide⟩, _, rfl, by decide⟩

/-- JUNK changes in each of the four ways. -/
theorem witness_JunkChangesInThreePlacesAndReset :
    (∃ t, exec .rst (seekingWith 5) = .next t ∧ t.junk ≠ 5) ∧
    (∃ t, exec (.rxbyte 0x55) (seekingWith 5) = .next t ∧ t.junk ≠ 5) ∧
    (∃ t, exec (.rxbyte 0x3D) lastByte = .next t ∧ t.junk ≠ lastByte.junk) ∧
    (∃ t, exec .poll (seekingWith 1001) = .next t ∧ t.junk ≠ 1001) :=
  ⟨⟨_, rfl, by decide⟩, ⟨_, rfl, by decide⟩, ⟨_, rfl, by decide⟩, _, rfl, by decide⟩

theorem witness_NoToggleAfterAnAcceptedFrame :
    accepted.baudok = true ∧ Instr.rst ∉ [Instr.rxbyte 0x00, .poll] ∧
    ∃ t, execAll [.rxbyte 0x00, .poll] accepted = .next t := ⟨by decide, by decide, _, rfl⟩

/-- 500 junk bytes of one kind and `n` of another. -/
def junkBytes (n : Nat) : List Byte := List.replicate 500 0x55 ++ List.replicate n 0x00

theorem junkBytes_not_marker (n : Nat) : ∀ c ∈ junkBytes n, c ≠ State.reset.cfg.startMarker := by
  intro c hc
  rcases List.mem_append.1 hc with h | h <;> rw [List.eq_of_mem_replicate h] <;> decide

theorem junkBytes_length (n : Nat) : (junkBytes n).length = 500 + n := by
  rw [junkBytes, List.length_append, List.length_replicate, List.length_replicate]

/-- 1000 and 1001 bytes, the two sides of the threshold. -/
theorem witness_JunkBytesBringTheToggle :
    State.reset.begun = false ∧ State.reset.baudok = false ∧ State.reset.junk = 0 ∧
    ((∀ c ∈ junkBytes 500, c ≠ State.reset.cfg.startMarker) ∧ (junkBytes 500).length ≤ 1000) ∧
    ((∀ c ∈ junkBytes 501, c ≠ State.reset.cfg.startMarker) ∧ 1001 ≤ (junkBytes 501).length) :=
  ⟨rfl, rfl, rfl, ⟨junkBytes_not_marker 500, (junkBytes_length 500).le⟩, junkBytes_not_marker 501,
    (junkBytes_length 501).ge⟩

theorem witness_StepKeepsTheParameters : ∃ t, step { lastByte with inputs := [bothPins 0x3C] } = .next t := ⟨_, rfl⟩

/-- A cycle without RST that keeps BAUDOK, and one whose byte changes the buffer. -/
theorem witness_StepKeepsTheInvariant :
    StateInv accepted ∧ (∃ t, step accepted = .next t) ∧ (nextPins accepted).rst ≠ 1#1 ∧ accepted.baudok = true ∧
    ∃ t, step { lastByte with inputs := [bothPins 0x3C] } = .next t ∧ Memory.read t.buf 6 ≠ Memory.read lastByte.buf 6 :=
  ⟨accepted_inv, ⟨_, rfl⟩, by decide, by decide, _, rfl, by decide⟩

theorem witness_EveryOperationCompletes : StateInv lastByte := lastByte_inv

theorem witness_RunsNeverStop : StateInv State.reset := reset_inv

end Sys2Proof.Tests
end

/-! One clock cycle without a reset: what `step` does once the pins and the word on the producer port are known. -/

namespace Sys2Proof.Machine

/-- RXBYTE's word decodes to RXBYTE of its low eight bits (30_encoding.md R52). -/
@[simp] theorem decodeProducer_rxbyte (c : Byte) : decodeProducer (1#1 ++ c) = .rxbyte c := by
  have hcode : (1#1 ++ c).extractLsb' 8 1 = 1#1 := BitVec.extractLsb'_append_eq_left
  have hbyte : (1#1 ++ c).extractLsb' 0 8 = c := BitVec.extractLsb'_append_eq_right
  rw [decodeProducer, if_pos hcode, hbyte]

/-- The step takes the first of the cycles the environment presents (30_encoding.md R49). -/
theorem step_of_inputs_cons {s : State} {x : Pins} {rest : List Pins} (h : s.inputs = x :: rest) :
    step s = runCycle x.decode { s with inputs := rest } := by
  simp only [step, nextPins, takePins, h, List.headD_cons, List.tail_cons]

/-- With `rst = 0` a cycle is the producer port's operation, then the consumer port's on the state it left
(30_encoding.md R53). -/
theorem runCycle_decode_of_rst_eq_zero {x : Pins} (h : x.rst = 0#1) (s : State) :
    runCycle x.decode s =
      andThen (exec (decodeProducer x.producerWord) s) (exec (decodeConsumer x.consumerWord)) := by
  have hreset : x.decode.reset = .norst := by
    simp [Pins.decode, decodeReset, h]
  have hnorst : exec .norst s = .next s := rfl
  rw [runCycle, hreset, if_neg (by decide), hnorst, andThen_next]
  rfl

/-- Settles O9: the producer port's word is RXBYTE's, and the cycle goes on from the state that byte leads to. -/
theorem producerComesBeforeConsumer : Obligations.ProducerComesBeforeConsumer := by
  unfold Obligations.ProducerComesBeforeConsumer
  intro s u x rest c hinputs hrst hvalid hdata hbyte
  have hproducer : decodeProducer x.producerWord = .rxbyte c := by
    rw [Pins.producerWord, hvalid, hdata, decodeProducer_rxbyte]
  rw [step_of_inputs_cons hinputs, runCycle_decode_of_rst_eq_zero hrst, hproducer, hbyte, andThen_next]

end Sys2Proof.Machine

/-! The formats of 30_encoding.md R52, read on words put together from their fields. -/

namespace Sys2Proof.Machine

/-- The only word of format R that is RST is `1` (30_encoding.md R52). -/
theorem decodeReset_eq_rst_iff (w : BitVec 1) : decodeReset w = .rst ↔ w = 1#1 := by
  unfold decodeReset
  split <;> simp_all

/-- With `rx_valid = 0` the producer port is idle, whatever the data pins show (30_encoding.md R52). -/
@[simp] theorem decodeProducer_pidle (u : Byte) : decodeProducer (0#1 ++ u) = .pidle := by
  have hcode : (0#1 ++ u).extractLsb' 8 1 = 0#1 := BitVec.extractLsb'_append_eq_left
  rw [decodeProducer, hcode, if_neg (by decide)]

/-- The decoder of format C on a code and the 24 bits below it (30_encoding.md R52). -/
theorem decodeConsumer_append (op : BitVec 2) (u : BitVec 24) :
    decodeConsumer (op ++ u) =
      if op = 0#2 then .cidle
      else if op = 1#2 then .poll
      else if op = 2#2 then .rdch (u.extractLsb' 16 8) (u.extractLsb' 0 16)
      else .crsv := by
  have hcode : (op ++ u).extractLsb' 24 2 = op := BitVec.extractLsb'_append_eq_left
  have hidx : (op ++ u).extractLsb' 16 8 = u.extractLsb' 16 8 :=
    BitVec.extractLsb'_append_eq_of_add_le (by decide)
  have hmid : (op ++ u).extractLsb' 0 16 = u.extractLsb' 0 16 :=
    BitVec.extractLsb'_append_eq_of_add_le (by decide)
  rw [decodeConsumer, hcode, hidx, hmid]

/-- The decoder of format C on its three fields (30_encoding.md R52). -/
theorem decodeConsumer_fields (op : BitVec 2) (r : Byte) (mid : Half) :
    decodeConsumer (op ++ r ++ mid) =
      if op = 0#2 then .cidle
      else if op = 1#2 then .poll
      else if op = 2#2 then .rdch r mid
      else .crsv := by
  have hassoc : op ++ r ++ mid = op ++ (r ++ mid) := BitVec.append_assoc
  have hidx : (r ++ mid).extractLsb' 16 8 = r := BitVec.extractLsb'_append_eq_left
  have hmid : (r ++ mid).extractLsb' 0 16 = mid := BitVec.extractLsb'_append_eq_right
  rw [hassoc, decodeConsumer_append, hidx, hmid]

@[simp] theorem decodeConsumer_cidle (u : BitVec 24) : decodeConsumer (0#2 ++ u) = .cidle :=
  decodeConsumer_append 0#2 u

@[simp] theorem decodeConsumer_poll (u : BitVec 24) : decodeConsumer (1#2 ++ u) = .poll :=
  decodeConsumer_append 1#2 u

@[simp] theorem decodeConsumer_rdch (r : Byte) (mid : Half) : decodeConsumer (2#2 ++ r ++ mid) = .rdch r mid :=
  decodeConsumer_fields 2#2 r mid

@[simp] theorem decodeConsumer_crsv (u : BitVec 24) : decodeConsumer (3#2 ++ u) = .crsv :=
  decodeConsumer_append 3#2 u

/-- Settles O3: a conjunct per row of R52, each the decoder's lemma for that row. -/
theorem formatsDecodeAsTabulated : Obligations.FormatsDecodeAsTabulated := by
  unfold Obligations.FormatsDecodeAsTabulated
  exact ⟨rfl, rfl, decodeProducer_rxbyte, decodeProducer_pidle, decodeConsumer_cidle, decodeConsumer_poll,
    decodeConsumer_rdch, decodeConsumer_crsv⟩

/-- Settles O39: CRSV and CIDLE both put the idle values on the outputs, and the decoders drop the unused bits. -/
theorem reservedCodeIsIdle : Obligations.ReservedCodeIsIdle := by
  unfold Obligations.ReservedCodeIsIdle
  refine ⟨fun s => ⟨rfl, rfl⟩, fun u v => ?_, fun u v => ⟨?_, ?_, decodeConsumer_crsv u⟩⟩
  · rw [decodeProducer_pidle, decodeProducer_pidle]
  · rw [decodeConsumer_cidle, decodeConsumer_cidle]
  · rw [decodeConsumer_poll, decodeConsumer_poll]

/-! ## The cycle of one step -/

/-- With `rst = 1` a cycle is RST alone (30_encoding.md R53). -/
theorem runCycle_decode_of_rst_eq_one {x : Pins} (h : x.rst = 1#1) (s : State) :
    runCycle x.decode s = exec .rst s := by
  have hreset : x.decode.reset = .rst := (decodeReset_eq_rst_iff _).2 h
  rw [runCycle, if_pos hreset]

/-- Settles O6: the two values of the reset pin are the two branches of the cycle. -/
theorem stepRunsThePresentedOperations : Obligations.StepRunsThePresentedOperations := by
  unfold Obligations.StepRunsThePresentedOperations
  intro s x rest hinputs
  rw [step_of_inputs_cons hinputs]
  refine ⟨fun hrst => runCycle_decode_of_rst_eq_one hrst _, fun hrst => ?_⟩
  have hzero : x.rst = 0#1 := (BitVec.eq_zero_or_eq_one x.rst).resolve_right hrst
  exact runCycle_decode_of_rst_eq_zero hzero _

/-- The operation a step ends with: RST, or the one decoded from the consumer port (30_encoding.md R53). -/
theorem step_next_cases {s t : State} (h : step s = .next t) :
    ((nextPins s).rst = 1#1 ∧ exec .rst (takePins s) = .next t) ∨
    ((nextPins s).rst ≠ 1#1 ∧ ∃ u, exec (decodeConsumer (nextPins s).consumerWord) u = .next t) := by
  have hpin : (nextPins s).decode.reset = .rst ↔ (nextPins s).rst = 1#1 := decodeReset_eq_rst_iff _
  rcases runCycle_next h with ⟨hreset, hrst⟩ | ⟨hreset, _, u, _, _, hconsumer⟩
  · exact .inl ⟨hpin.1 hreset, hrst⟩
  · exact .inr ⟨mt hpin.2 hreset, u, hconsumer⟩

/-! ## The outputs each consumer operation drives (30_encoding.md R50) -/

/-- After RST every output is idle (70_reset_and_hazards.md R131). -/
theorem exec_rst_outputs {s t : State} (h : exec .rst s = .next t) :
    t.outputs = ⟨false, false, false, 0, Config.nchan⟩ := by
  cases h
  rfl

/-- A consumer word whose code is not POLL's leaves the three POLL outputs idle. -/
theorem exec_consumer_pulses_idle {x : Pins} {s t : State} (hop : x.cOp ≠ 1#2)
    (h : exec (decodeConsumer x.consumerWord) s = .next t) :
    t.outputs.ready = false ∧ t.outputs.fsClear = false ∧ t.outputs.baudToggle = false := by
  rw [Pins.consumerWord, decodeConsumer_fields, if_neg (c := x.cOp = 1#2) hop] at h
  split at h
  case isTrue hcidle => cases h; exact ⟨rfl, rfl, rfl⟩
  case isFalse =>
    split at h
    case isTrue hrdch => cases h; exact ⟨rfl, rfl, rfl⟩
    case isFalse hcrsv => cases h; exact ⟨rfl, rfl, rfl⟩

/-- A consumer word whose code is not RDCH's leaves `c_val` idle. -/
theorem exec_consumer_val_idle {x : Pins} {s t : State} (hop : x.cOp ≠ 2#2)
    (h : exec (decodeConsumer x.consumerWord) s = .next t) : t.outputs.val = 0 := by
  rw [Pins.consumerWord, decodeConsumer_fields, if_neg (c := x.cOp = 2#2) hop] at h
  split at h
  case isTrue hcidle => cases h; rfl
  case isFalse =>
    split at h
    case isTrue hpoll => cases h; rfl
    case isFalse hcrsv => cases h; rfl

/-- Settles O11: the cycle ends with RST, which makes every output idle, or with the consumer port's operation,
which drives only its own outputs. -/
theorem outputsAreIdleUnlessDriven : Obligations.OutputsAreIdleUnlessDriven := by
  unfold Obligations.OutputsAreIdleUnlessDriven
  intro s t h
  rcases step_next_cases h with ⟨_, hexec⟩ | ⟨hrst, u, hexec⟩
  · rw [exec_rst_outputs hexec]
    exact ⟨fun _ => ⟨rfl, rfl, rfl⟩, fun _ => rfl, rfl⟩
  · exact ⟨fun hidle => exec_consumer_pulses_idle (hidle.resolve_left hrst) hexec,
      fun hidle => exec_consumer_val_idle (hidle.resolve_left hrst) hexec, rfl⟩

end Sys2Proof.Machine

/-! The Checksum Engine: the update bit by bit, what makes it zero, and the bit-serial procedure as a linear map. -/

namespace Sys2Proof.Machine

/-! ## The update bit by bit (40_checksum.md R66, R67) -/

/-- R66's `d2`, which R67 calls `e`: the byte fed into the update, mixed with its own low nibble. -/
def crcMix (d1 : Byte) : Byte := d1 ^^^ d1 <<< 4

/-- The update with R66's `d2` named. -/
theorem crcUpd_eq_crcMix (crc : Half) (data : Byte) :
    crcUpd crc data =
      (crcMix (data ^^^ crc.extractLsb' 0 8) ++ crc.extractLsb' 8 8) ^^^
        ((crcMix (data ^^^ crc.extractLsb' 0 8)).extractLsb' 4 4).setWidth 16 ^^^
        (crcMix (data ^^^ crc.extractLsb' 0 8)).setWidth 16 <<< 3 := rfl

/-- The high byte holds `e` and the top of `e << 3`. -/
theorem getLsbD_crcUpd_high (crc : Half) (data : Byte) {i : Nat} (hi : i < 8) :
    (crcUpd crc data).getLsbD (8 + i) =
      ((crcMix (data ^^^ crc.extractLsb' 0 8)).getLsbD i ^^
        (crcMix (data ^^^ crc.extractLsb' 0 8)).getLsbD (5 + i)) := by
  rw [crcUpd_eq_crcMix]
  generalize crcMix (data ^^^ crc.extractLsb' 0 8) = e
  have hshift : 8 + i - 3 = 5 + i := by omega
  have hge : ¬ 8 + i < 8 ∧ ¬ 8 + i < 4 ∧ ¬ 8 + i < 3 := by omega
  have hlt : 8 + i < 16 ∧ 5 + i < 16 := by omega
  simp only [BitVec.getLsbD_xor, BitVec.getLsbD_append, BitVec.getLsbD_setWidth, BitVec.getLsbD_extractLsb',
    BitVec.getLsbD_shiftLeft, hshift, hge, hlt, Nat.add_sub_cancel_left, if_false, decide_true, decide_false,
    Bool.true_and, Bool.false_and, Bool.and_false, Bool.not_false, Bool.xor_false]

/-- The low byte holds the old high byte, `e >> 4` and the bottom of `e << 3`. -/
theorem getLsbD_crcUpd_low (crc : Half) (data : Byte) {i : Nat} (hi : i < 8) :
    (crcUpd crc data).getLsbD i =
      ((crc.extractLsb' 8 8).getLsbD i ^^ (crcMix (data ^^^ crc.extractLsb' 0 8)).getLsbD (4 + i) ^^
        (!decide (i < 3) && (crcMix (data ^^^ crc.extractLsb' 0 8)).getLsbD (i - 3))) := by
  rw [crcUpd_eq_crcMix]
  generalize crcMix (data ^^^ crc.extractLsb' 0 8) = e
  have hlt : i < 16 ∧ i - 3 < 16 := by omega
  have hnibble : (decide (i < 4) && e.getLsbD (4 + i)) = e.getLsbD (4 + i) := by
    by_cases h4 : i < 4
    · simp [h4]
    · simp [h4, BitVec.getLsbD_of_ge e (4 + i) (by omega)]
  simp only [BitVec.getLsbD_xor, BitVec.getLsbD_append, BitVec.getLsbD_setWidth, BitVec.getLsbD_extractLsb',
    BitVec.getLsbD_shiftLeft, hi, hlt, hnibble, if_true, decide_true, Bool.true_and, Bool.xor_assoc]

/-- R67's two equations for the nibbles of `e` determine it. -/
theorem eq_crcMix_of_nibbles {d1 e : Byte}
    (hhigh : e.extractLsb' 4 4 = d1.extractLsb' 4 4 ^^^ d1.extractLsb' 0 4)
    (hlow : e.extractLsb' 0 4 = d1.extractLsb' 0 4) : e = crcMix d1 := by
  apply BitVec.eq_of_getLsbD_eq
  intro i hi
  by_cases h4 : i < 4
  · have hbit := congrArg (fun v => v.getLsbD i) hlow
    simpa [crcMix, h4] using hbit
  · have hbit := congrArg (fun v => v.getLsbD (i - 4)) hhigh
    have hin : i - 4 < 4 := by omega
    have hsum : 4 + (i - 4) = i := by omega
    simpa [crcMix, h4, hi, hin, hsum, -BitVec.getLsbD_eq_getElem] using hbit

/-- Settles O30: each of R67's groups lies in one byte of the update, whose bits are known; the terms a group does
not have are bits of `e` above its top. -/
theorem checksumUpdatePerBit : Obligations.ChecksumUpdatePerBit := by
  unfold Obligations.ChecksumUpdatePerBit
  intro crc data d1 e h hd1 hh hhigh hlow
  have hmix : e = crcMix (data ^^^ crc.extractLsb' 0 8) := hd1 ▸ eq_crcMix_of_nibbles hhigh hlow
  have hupper {i : Nat} (hi : i < 8) :
      (crcUpd crc data).getLsbD (8 + i) = (e.getLsbD i ^^ e.getLsbD (5 + i)) :=
    hmix ▸ getLsbD_crcUpd_high crc data hi
  have hlower {i : Nat} (hi : i < 8) :
      (crcUpd crc data).getLsbD i =
        (h.getLsbD i ^^ e.getLsbD (4 + i) ^^ (!decide (i < 3) && e.getLsbD (i - 3))) :=
    hmix ▸ hh ▸ getLsbD_crcUpd_low crc data hi
  have hout {i : Nat} (hi : 8 ≤ i) : e.getLsbD i = false := BitVec.getLsbD_of_ge e i hi
  refine ⟨?bits15_11, ?bits10_8, ?bit7, ?bits6_4, ?bit3, ?bits2_0⟩
  case bits15_11 =>
    ext i hi
    have hpos : 11 + i = 8 + (3 + i) := by omega
    simp [hpos, hupper (i := 3 + i) (by omega), hout (i := 5 + (3 + i)) (by omega)]
  case bits10_8 =>
    ext i hi
    simp [hupper (i := i) (by omega)]
  case bit7 => simpa [hout] using hlower (i := 7) (by decide)
  case bits6_4 =>
    ext i hi
    have hpos : 4 + i - 3 = 1 + i := by omega
    have hge : ¬ 4 + i < 3 := by omega
    simp [hlower (i := 4 + i) (by omega), hout (i := 4 + (4 + i)) (by omega), hpos, hge]
  case bit3 => simpa using hlower (i := 3) (by decide)
  case bits2_0 =>
    ext i hi
    simp [hlower (i := i) (by omega), hi]

/-! ## The fold and the pair of bytes that brings it to zero (40_checksum.md R68, R70) -/

/-- Settles O31: the fold over a sequence and one more byte goes on from the sequence's fold. -/
theorem checksumFoldIsLeftToRight : Obligations.ChecksumFoldIsLeftToRight := by
  unfold Obligations.ChecksumFoldIsLeftToRight
  exact ⟨rfl, fun bytes b => crcFold_append bytes [b]⟩

/-- The high byte of the update depends on the mixed byte alone. -/
theorem extractLsb'_crcUpd_high (crc : Half) (data : Byte) :
    (crcUpd crc data).extractLsb' 8 8 =
      crcMix (data ^^^ crc.extractLsb' 0 8) ^^^ crcMix (data ^^^ crc.extractLsb' 0 8) >>> 5 := by
  apply BitVec.eq_of_getLsbD_eq
  intro i hi
  simp only [BitVec.getLsbD_extractLsb', BitVec.getLsbD_xor, BitVec.getLsbD_ushiftRight, hi, decide_true,
    Bool.true_and, getLsbD_crcUpd_high crc data hi]

/-- No byte but zero mixes to a zero high byte of the update: checked over the 256 bytes. -/
theorem crcMix_high_eq_zero {d1 : Byte} : crcMix d1 ^^^ crcMix d1 >>> 5 = 0 → d1 = 0 := by
  revert d1
  decide

/-- After the update by its low byte a register holds its old high byte in the low half and zero above. -/
theorem crcUpd_low_byte_bytes (crc : Half) :
    (crcUpd crc (crc.extractLsb' 0 8)).extractLsb' 8 8 = 0 ∧
    (crcUpd crc (crc.extractLsb' 0 8)).extractLsb' 0 8 = crc.extractLsb' 8 8 := by
  have happend : crcUpd crc (crc.extractLsb' 0 8) = (0#8 ++ crc.extractLsb' 8 8 : BitVec (8 + 8)) := by
    rw [crcUpd_low_byte]
    exact BitVec.setWidth_eq_append (by decide)
  rw [happend]
  exact ⟨BitVec.extractLsb'_append_eq_left, BitVec.extractLsb'_append_eq_right⟩

/-- The update clears the high byte exactly when the byte fed in is the register's low byte. -/
theorem crcUpd_high_byte_eq_zero_iff (crc : Half) (data : Byte) :
    (crcUpd crc data).extractLsb' 8 8 = 0 ↔ data = crc.extractLsb' 0 8 := by
  constructor
  · intro h
    rw [extractLsb'_crcUpd_high] at h
    exact BitVec.xor_eq_zero_iff.1 (crcMix_high_eq_zero h)
  · rintro rfl
    exact (crcUpd_low_byte_bytes crc).1

/-- The update is zero exactly when the byte fed in is the whole of the register. -/
theorem crcUpd_eq_zero_iff (crc : Half) (data : Byte) :
    crcUpd crc data = 0 ↔ crc.extractLsb' 8 8 = 0 ∧ data = crc.extractLsb' 0 8 := by
  constructor
  · intro h
    have hdata : data = crc.extractLsb' 0 8 := (crcUpd_high_byte_eq_zero_iff crc data).1 (by rw [h]; rfl)
    subst hdata
    refine ⟨?_, rfl⟩
    rw [← (crcUpd_low_byte_bytes crc).2, h]
    rfl
  · rintro ⟨hhigh, rfl⟩
    rw [crcUpd_low_byte, hhigh]
    rfl

/-- Settles O32: the second byte leaves zero only if the first has cleared the high byte, so the first is the low
byte of the body's fold and the second its high byte. -/
theorem senderChecksumIsUnique : Obligations.SenderChecksumIsUnique := by
  unfold Obligations.SenderChecksumIsUnique
  refine ⟨fun body x y => ?_, by decide⟩
  have hfold : crcFold (body ++ [x, y]) = crcUpd (crcUpd (crcFold body) x) y := crcFold_append body [x, y]
  rw [hfold, crcUpd_eq_zero_iff, crcUpd_high_byte_eq_zero_iff]
  refine and_congr_right fun hx => ?_
  rw [hx, (crcUpd_low_byte_bytes (crcFold body)).2]

/-! ## The bit-serial procedure (40_checksum.md R73) -/

/-- The update shifts the register down by a byte and adds the update of an empty register by the mixed-in byte. -/
theorem crcUpd_eq_shift_xor (crc : Half) (data : Byte) :
    crcUpd crc data = crc >>> 8 ^^^ crcUpd 0 (data ^^^ crc.extractLsb' 0 8) := by
  have hlow : (0 : Half).extractLsb' 0 8 = 0#8 := by decide
  have hhigh : (0 : Half).extractLsb' 8 8 = 0#8 := by decide
  have happend (e : Byte) : e ++ crc.extractLsb' 8 8 = crc >>> 8 ^^^ (e ++ 0#8) := by
    apply BitVec.eq_of_getLsbD_eq
    intro i hi
    simp only [BitVec.getLsbD_append, BitVec.getLsbD_xor, BitVec.getLsbD_ushiftRight,
      BitVec.getLsbD_extractLsb']
    split
    case isTrue h8 => simp [h8]
    case isFalse h8 => simp [BitVec.getLsbD_of_ge crc (8 + i) (by omega)]
  rw [crcUpd_eq_crcMix, crcUpd_eq_crcMix 0, hlow, hhigh, happend]
  simp only [BitVec.xor_assoc, BitVec.xor_zero]

/-- A step is linear: where a one leaves both registers the two feedback words cancel. -/
theorem crcSerialStep_xor (x y : Half) : crcSerialStep (x ^^^ y) = crcSerialStep x ^^^ crcSerialStep y := by
  have hcancel (a b p : Half) : a ^^^ b = a ^^^ p ^^^ (b ^^^ p) := by
    rw [BitVec.xor_comm b p, BitVec.xor_assoc, ← BitVec.xor_assoc p, BitVec.xor_self, BitVec.zero_xor]
  simp only [crcSerialStep, BitVec.getLsbD_xor, BitVec.ushiftRight_xor_distrib]
  cases x.getLsbD 0 with
  | false =>
    cases y.getLsbD 0 with
    | false => rfl
    | true => exact BitVec.xor_assoc _ _ _
  | true =>
    cases y.getLsbD 0 with
    | false =>
      simp only [Bool.xor_false, if_true, Bool.false_eq_true, if_false]
      ac_rfl
    | true => exact hcancel (x >>> 1) (y >>> 1) 0x8408#16

/-- Any number of steps is linear. -/
theorem crcSerialSteps_xor (n : Nat) (x y : Half) :
    crcSerialSteps n (x ^^^ y) = crcSerialSteps n x ^^^ crcSerialSteps n y := by
  induction n generalizing x y with
  | zero => rfl
  | succ n ih => rw [crcSerialSteps, crcSerialStep_xor, ih, crcSerialSteps, crcSerialSteps]

/-- As long as the bits that leave are zero the procedure only shifts. -/
theorem crcSerialSteps_of_low_zero {n : Nat} {x : Half} (h : ∀ i < n, x.getLsbD i = false) :
    crcSerialSteps n x = x >>> n := by
  induction n generalizing x with
  | zero => simp [crcSerialSteps]
  | succ n ih =>
    have hstep : crcSerialStep x = x >>> 1 := by rw [crcSerialStep, h 0 (by omega), if_neg Bool.false_ne_true]
    have hrest : ∀ i < n, (x >>> 1).getLsbD i = false := fun i hi => by
      rw [BitVec.getLsbD_ushiftRight]
      exact h (1 + i) (by omega)
    rw [crcSerialSteps, hstep, ih hrest, ← BitVec.shiftRight_add, Nat.add_comm]

/-- On a byte in an empty register eight steps are the update: checked over the 256 bytes, to which linearity
reduces R73's 65536 x 256 pairs. -/
theorem crcSerialSteps_byte (d : Byte) : crcSerialSteps 8 (d.setWidth 16) = crcUpd 0 d := by
  revert d
  decide

/-- The bit-serial start, as the register without its low byte and the byte mixed in. -/
theorem xor_setWidth_eq (crc : Half) (data : Byte) :
    crc ^^^ data.setWidth 16 = crc >>> 8 <<< 8 ^^^ (data ^^^ crc.extractLsb' 0 8).setWidth 16 := by
  apply BitVec.eq_of_getLsbD_eq
  intro i hi
  by_cases h8 : i < 8
  · simp [hi, h8, Bool.xor_comm]
  · have hpos : 8 + (i - 8) = i := by omega
    simp [hi, h8, hpos]

/-- Settles O34: eight steps on the start's two parts shift the register's high byte down and update an empty
register by the mixed-in byte, which is what the update does. -/
theorem checksumUpdateIsBitSerial : Obligations.ChecksumUpdateIsBitSerial := by
  unfold Obligations.ChecksumUpdateIsBitSerial
  refine ⟨fun crc data => ?_, by decide⟩
  have hzero : ∀ i < 8, (crc >>> 8 <<< 8).getLsbD i = false := fun i hi => by
    simp [hi]
  have hshift : crc >>> 8 <<< 8 >>> 8 = crc >>> 8 := by
    apply BitVec.eq_of_getLsbD_eq
    intro i hi
    simpa using fun hbit => BitVec.lt_of_getLsbD hbit
  calc crcUpd crc data
      = crc >>> 8 ^^^ crcUpd 0 (data ^^^ crc.extractLsb' 0 8) := crcUpd_eq_shift_xor crc data
    _ = crcSerialSteps 8 (crc >>> 8 <<< 8) ^^^
          crcSerialSteps 8 ((data ^^^ crc.extractLsb' 0 8).setWidth 16) := by
      rw [crcSerialSteps_of_low_zero hzero, hshift, crcSerialSteps_byte]
    _ = crcSerialSteps 8 (crc ^^^ data.setWidth 16) := by rw [← crcSerialSteps_xor, ← xor_setWidth_eq]
    _ = crcSerial crc data := rfl

end Sys2Proof.Machine

/-! RXBYTE in Assembling, one equation per row of 41_frame_assembler.md R90: the byte is stored, and then one of the
three aborts happens or the completion test runs. -/

namespace Sys2Proof.Machine

theorem exec_rxbyte (c : Byte) (s : State) : exec (.rxbyte c) s = execRxbyte c s := rfl

/-! ## The state after the store -/

/-- The state in which the checks leave a byte that was stored: at the cursor's position, the cursor one further and,
at position 2, LEN holding the byte (41_frame_assembler.md R79, R80). -/
def storedState (c : Byte) (s : State) : State :=
  { s with buf := bufferAfter c s, pos := s.pos + 1, len := lengthAfter c s }

theorem withLength_storeAndAdvance (c : Byte) (s : State) :
    withLength s.pos.toNat c (storeAndAdvance c s) = storedState c s := by
  unfold withLength storedState lengthAfter
  split <;> rfl

theorem storedState_of_pos_two {c : Byte} {s : State} (h : s.pos.toNat = 2) :
    { storeAndAdvance c s with len := c } = storedState c s := by
  rw [← withLength_storeAndAdvance, withLength, if_pos h]

theorem storedState_of_pos_ne_two {c : Byte} {s : State} (h : s.pos.toNat ≠ 2) :
    storeAndAdvance c s = storedState c s := by
  rw [← withLength_storeAndAdvance, withLength, if_neg h]

theorem lengthAfter_of_pos_two {c : Byte} {s : State} (h : s.pos.toNat = 2) : lengthAfter c s = c := if_pos h

theorem lengthAfter_of_pos_ne_two {c : Byte} {s : State} (h : s.pos.toNat ≠ 2) : lengthAfter c s = s.len := if_neg h

/-- The cursor and LEN agree on the stored state exactly when the byte is the frame's last one. -/
theorem storedState_complete_iff {c : Byte} {s : State} (hp : s.pos.toNat < 70) :
    (storedState c s).pos.toNat = (storedState c s).len.toNat ↔ s.pos.toNat + 1 = (lengthAfter c s).toNat := by
  rw [← pos_succ_toNat hp]
  rfl

/-- An abort leaves JUNK and the flags other than BEGUN as they were (41_frame_assembler.md R81, R82). -/
theorem reject_abort_eq {e : Reject} (h : e = .oversize ∨ e = .short ∨ e = .packetType) (s : State) :
    reject e s = { s with begun := false, label := some (.rejected e) } := by
  rw [reject, rejectedJunk_abort h]

/-! ## The completion step -/

theorem completeFrame_of_incomplete {s : State} (h : s.pos.toNat ≠ s.len.toNat) :
    completeFrame s = withLabel (some .stored) s := by
  rcases completeFrame_cases s with ⟨-, e⟩ | ⟨h', -⟩ | ⟨h', -⟩
  · exact e
  · exact absurd h' h
  · exact absurd h' h

theorem completeFrame_of_fold_eq_zero {s : State} (h : s.pos.toNat = s.len.toNat)
    (hfold : Memory.fold s.buf s.len.toNat = 0x0000) : completeFrame s = acceptFrame s := by
  rcases completeFrame_cases s with ⟨h', -⟩ | ⟨-, -, e⟩ | ⟨-, hfold', -⟩
  · exact absurd h h'
  · exact e
  · exact absurd hfold hfold'

theorem completeFrame_of_fold_ne_zero {s : State} (h : s.pos.toNat = s.len.toNat)
    (hfold : Memory.fold s.buf s.len.toNat ≠ 0x0000) : completeFrame s = reject .checksum s := by
  rcases completeFrame_cases s with ⟨h', -⟩ | ⟨-, hfold', -⟩ | ⟨-, -, e⟩
  · exact absurd h h'
  · exact absurd hfold' hfold
  · exact e

/-- The completion step writes BEGUN, DONE, BAUDOK, JUNK and the label only. -/
theorem completeFrame_frame (s : State) :
    completeFrame s = { s with
      begun := (completeFrame s).begun, done := (completeFrame s).done, baudok := (completeFrame s).baudok,
      junk := (completeFrame s).junk, label := (completeFrame s).label } := by
  rcases completeFrame_cases s with ⟨-, e⟩ | ⟨-, -, e⟩ | ⟨-, -, e⟩ <;> rw [e] <;> rfl

/-! ## RXBYTE, by the state and the position -/

theorem execRxbyte_junk {c : Byte} {s : State} (hb : s.begun = false) (hc : c ≠ s.cfg.startMarker) :
    execRxbyte c s = .next (reject .junk s) := by
  simp [execRxbyte, hb, hc]

/-- A start marker in Seeking is stored as a fresh attempt's first byte (41_frame_assembler.md R78). -/
theorem execRxbyte_startMarker {c : Byte} {s : State} (hb : s.begun = false) (hc : c = s.cfg.startMarker) :
    execRxbyte c s = execRxbyte c (beginAttempt s) := by
  simp [execRxbyte, hb, hc]

theorem execRxbyte_assembling {c : Byte} {s : State} (hb : s.begun = true) (hp : s.pos.toNat < 70) :
    execRxbyte c s = .next (checkStored s.pos.toNat c (storeAndAdvance c s)) := by
  simp [execRxbyte, assemble, hb, storeByte_inside hp]

/-- The rows of the transition table from Assembling, each on the stored state (41_frame_assembler.md R90). -/
theorem execRxbyte_assembling_cases (c : Byte) {s : State} (hb : s.begun = true) (hp : s.pos.toNat < 70) :
    (s.pos.toNat = 2 ∧ 70 < c.toNat ∧ execRxbyte c s = .next (reject .oversize (storedState c s))) ∨
    (s.pos.toNat = 2 ∧ c.toNat < 3 ∧ execRxbyte c s = .next (reject .short (storedState c s))) ∨
    (s.pos.toNat = 4 ∧ c ≠ s.cfg.rcType ∧ execRxbyte c s = .next (reject .packetType (storedState c s))) ∨
    ((s.pos.toNat = 2 → 3 ≤ c.toNat ∧ c.toNat ≤ 70) ∧ (s.pos.toNat = 4 → c = s.cfg.rcType) ∧
      execRxbyte c s = .next (completeFrame (storedState c s))) := by
  rw [execRxbyte_assembling hb hp]
  rcases checkStored_cases s.pos.toNat c (storeAndAdvance c s) with
    ⟨h2, hc, e⟩ | ⟨h2, hc, e⟩ | ⟨h4, hc, e⟩ | ⟨h2, h4, e⟩ <;> rw [e]
  · exact .inl ⟨h2, hc, by rw [storedState_of_pos_two h2]⟩
  · exact .inr (.inl ⟨h2, hc, by rw [storedState_of_pos_two h2]⟩)
  · exact .inr (.inr (.inl ⟨h4, hc, by rw [storedState_of_pos_ne_two (by omega)]⟩))
  · exact .inr (.inr (.inr ⟨h2, h4, by rw [withLength_storeAndAdvance]⟩))

theorem execRxbyte_oversize {c : Byte} {s : State} (hb : s.begun = true) (hp : s.pos.toNat = 2)
    (hc : 70 < c.toNat) : execRxbyte c s = .next (reject .oversize (storedState c s)) := by
  rcases execRxbyte_assembling_cases c hb (by omega) with ⟨-, -, e⟩ | ⟨-, h, -⟩ | ⟨h, -⟩ | ⟨h, -⟩
  · exact e
  all_goals omega

theorem execRxbyte_short {c : Byte} {s : State} (hb : s.begun = true) (hp : s.pos.toNat = 2)
    (hc : c.toNat < 3) : execRxbyte c s = .next (reject .short (storedState c s)) := by
  rcases execRxbyte_assembling_cases c hb (by omega) with ⟨-, h, -⟩ | ⟨-, -, e⟩ | ⟨h, -⟩ | ⟨h, -⟩
  · omega
  · exact e
  all_goals omega

theorem execRxbyte_wrongType {c : Byte} {s : State} (hb : s.begun = true) (hp : s.pos.toNat = 4)
    (hc : c ≠ s.cfg.rcType) : execRxbyte c s = .next (reject .packetType (storedState c s)) := by
  rcases execRxbyte_assembling_cases c hb (by omega) with ⟨h, -⟩ | ⟨h, -⟩ | ⟨-, -, e⟩ | ⟨-, h, -⟩
  · omega
  · omega
  · exact e
  · exact absurd (h hp) hc

/-- A byte that passes its position's checks comes to the completion test (41_frame_assembler.md R83). -/
theorem execRxbyte_passed {c : Byte} {s : State} (hb : s.begun = true) (hp : s.pos.toNat < 70)
    (hlen : s.pos.toNat = 2 → 3 ≤ c.toNat ∧ c.toNat ≤ 70) (htype : s.pos.toNat = 4 → c = s.cfg.rcType) :
    execRxbyte c s = .next (completeFrame (storedState c s)) := by
  rcases execRxbyte_assembling_cases c hb hp with ⟨h, hc, -⟩ | ⟨h, hc, -⟩ | ⟨h, hc, -⟩ | ⟨-, -, e⟩
  · have := hlen h; omega
  · have := hlen h; omega
  · exact absurd (htype h) hc
  · exact e

/-- A byte that passes its checks and is not the frame's last one is stored, and nothing else happens. -/
theorem execRxbyte_stored {c : Byte} {s : State} (hb : s.begun = true) (hp : s.pos.toNat < 70)
    (hlen : s.pos.toNat = 2 → 3 ≤ c.toNat ∧ c.toNat ≤ 70) (htype : s.pos.toNat = 4 → c = s.cfg.rcType)
    (hmore : s.pos.toNat + 1 ≠ (lengthAfter c s).toNat) :
    execRxbyte c s = .next (withLabel (some .stored) (storedState c s)) := by
  rw [execRxbyte_passed hb hp hlen htype,
    completeFrame_of_incomplete (mt (storedState_complete_iff hp).1 hmore)]

/-- The frame's last byte comes to the completion test: one that completes the frame at position 2 is 3. -/
theorem execRxbyte_last {c : Byte} {s : State} (hb : s.begun = true) (hp : s.pos.toNat < 70)
    (htype : s.pos.toNat = 4 → c = s.cfg.rcType) (hlast : s.pos.toNat + 1 = (lengthAfter c s).toNat) :
    execRxbyte c s = .next (completeFrame (storedState c s)) := by
  refine execRxbyte_passed hb hp (fun h2 => ?_) htype
  rw [lengthAfter_of_pos_two h2] at hlast
  omega

/-- Whatever the checks decide, a byte taken in Assembling is stored and the cursor advances; the parameters, the
input and the output pins are left alone. -/
theorem execRxbyte_assembling_stores (c : Byte) {s : State} (hb : s.begun = true) (hp : s.pos.toNat < 70) :
    ∃ t, execRxbyte c s = .next t ∧ t.buf = bufferAfter c s ∧ t.pos = s.pos + 1 ∧
      t.cfg = s.cfg ∧ t.inputs = s.inputs ∧ t.outputs = s.outputs := by
  rcases execRxbyte_assembling_cases c hb hp with ⟨-, -, e⟩ | ⟨-, -, e⟩ | ⟨-, -, e⟩ | ⟨-, -, e⟩
  · exact ⟨_, e, rfl, rfl, rfl, rfl, rfl⟩
  · exact ⟨_, e, rfl, rfl, rfl, rfl, rfl⟩
  · exact ⟨_, e, rfl, rfl, rfl, rfl, rfl⟩
  · refine ⟨_, e, ?_⟩
    rw [completeFrame_frame]
    exact ⟨rfl, rfl, rfl, rfl, rfl⟩

/-- The three aborts in one form: the byte is stored, LEN takes it at position 2, the assembler is back in Seeking,
and nothing else changes. -/
theorem execRxbyte_abort {c : Byte} {s : State} {e : Reject} (he : e = .oversize ∨ e = .short ∨ e = .packetType)
    (hwf : Memory.wf s.buf = true) (hexec : execRxbyte c s = .next (reject e (storedState c s))) :
    ∃ t, exec (.rxbyte c) s = .next t ∧
      t = { s with buf := t.buf, pos := s.pos + 1, len := lengthAfter c s, begun := false,
                   label := some (.rejected e) } ∧
      Memory.read t.buf s.pos.toNat = c ∧
      ∀ a : Nat, a ≠ s.pos.toNat → Memory.read t.buf a = Memory.read s.buf a :=
  ⟨_, hexec, by rw [reject_abort_eq he]; rfl, Memory.read_write_same hwf _ c,
    fun _ ha => Memory.read_write_other s.buf c ha⟩

/-! ## What the invariants say in Assembling -/

/-- DONE is 0 throughout an attempt (10_state.md R21 item 5). -/
theorem StateInv.done_of_begun {s : State} (hinv : StateInv s) (hb : s.begun = true) : s.done = false := by
  cases hd : s.done with
  | false => rfl
  | true =>
    obtain ⟨-, hseeking, -⟩ := hinv.doneFrame hd
    rw [hb] at hseeking
    cases hseeking

end Sys2Proof.Machine

/-! The frame assembler's obligations: 41_frame_assembler.md R77 to R85. -/

namespace Sys2Proof.Machine

/-- Settles O16: the state is the one the junk reject leaves, and `sat16` saturates. -/
theorem seekingDiscardsAJunkByte : Obligations.SeekingDiscardsAJunkByte := by
  unfold Obligations.SeekingDiscardsAJunkByte
  intro s c hb hc
  exact ⟨reject .junk s, execRxbyte_junk hb hc, by rw [hb]; rfl, rejectedJunk_junk s⟩

/-- Settles O17: the marker is an attempt's first byte, at position 0 of a frame of declared length 7. -/
theorem seekingStartsAnAttempt : Obligations.SeekingStartsAnAttempt := by
  unfold Obligations.SeekingStartsAnAttempt
  intro s c hb hc hwf
  have hexec : execRxbyte c s = .next (withLabel (some .stored) (storedState c (beginAttempt s))) := by
    rw [execRxbyte_startMarker hb hc]
    exact execRxbyte_stored (beginAttempt_begun s) (by simp) (by simp) (by simp)
      (by simp [lengthAfter_of_pos_ne_two])
  exact ⟨_, hexec, rfl, Memory.wf_write hwf (by simp) c, Memory.read_write_same hwf 0 c,
    fun _ ha => Memory.read_write_other s.buf c ha⟩

/-- Settles O18: the checks write neither the buffer nor the cursor, so what the store did stands in every outcome. -/
theorem assemblingStoresEveryByte : Obligations.AssemblingStoresEveryByte := by
  unfold Obligations.AssemblingStoresEveryByte
  refine ⟨fun s c hb hp hwf => ?_, fun s hinv hb => ?_⟩
  · obtain ⟨t, hexec, hbuf, hpos, hcfg, hinputs, houtputs⟩ := execRxbyte_assembling_stores c hb hp
    rw [bufferAfter] at hbuf
    refine ⟨t, hexec, ?_, ?_, ?_, fun a ha => ?_, hcfg, hinputs, houtputs⟩
    · rw [hpos, pos_succ_toNat hp]
    · rw [hbuf]; exact Memory.wf_write hwf hp c
    · rw [hbuf, Memory.read_write_same hwf]
    · rw [hbuf, Memory.read_write_other _ _ ha]
  · obtain ⟨-, hbelow, hcap⟩ := hinv.assembling hb
    omega

/-- Settles O19: both length aborts are an abort at position 2; a length of 70 is not yet reached there. -/
theorem lengthByteOutOfRangeAborts : Obligations.LengthByteOutOfRangeAborts := by
  unfold Obligations.LengthByteOutOfRangeAborts
  intro s c hb hp hwf
  have hp2 : s.pos.toNat = 2 := by rw [hp]; rfl
  have hlen : lengthAfter c s = c := lengthAfter_of_pos_two hp2
  refine ⟨fun hc => ?_, fun hc => ?_, fun hc => ?_, fun hinv => hinv.done_of_begun hb⟩
  · simpa [hp, hlen] using execRxbyte_abort (by simp) hwf (execRxbyte_oversize hb hp2 hc)
  · simpa [hp, hlen] using execRxbyte_abort (by simp) hwf (execRxbyte_short hb hp2 hc)
  · have hmore : s.pos.toNat + 1 ≠ (lengthAfter c s).toNat := by rw [hlen]; omega
    exact ⟨_, execRxbyte_stored hb (by omega) (by omega) (by omega) hmore, hb, rfl⟩

/-- Settles O20: the type filter's abort is at position 4, which the invariants keep below LEN. -/
theorem wrongPacketTypeAborts : Obligations.WrongPacketTypeAborts := by
  unfold Obligations.WrongPacketTypeAborts
  intro s c hb hp hc hwf
  have hp4 : s.pos.toNat = 4 := by rw [hp]; rfl
  have hlen : lengthAfter c s = s.len := lengthAfter_of_pos_ne_two (by omega)
  obtain ⟨t, hexec, hstate, hsame, hother⟩ :=
    execRxbyte_abort (by simp) hwf (execRxbyte_wrongType hb hp4 hc)
  rw [hp4] at hsame hother
  rw [hp, hlen] at hstate
  refine ⟨t, hexec, hstate, hsame, hother, fun hinv => ?_⟩
  obtain ⟨-, hbelow, -⟩ := hinv.assembling hb
  omega

/-- Settles O22: the last byte comes to the completion test, and the fold over the stored frame is zero. -/
theorem completedFrameWithZeroFoldIsAccepted : Obligations.CompletedFrameWithZeroFoldIsAccepted := by
  unfold Obligations.CompletedFrameWithZeroFoldIsAccepted
  intro s c hb hp htype hlast hfold
  rw [exec_rxbyte, execRxbyte_last hb hp htype hlast,
    completeFrame_of_fold_eq_zero ((storedState_complete_iff hp).2 hlast) hfold]
  rfl

/-- Settles O23: the last byte comes to the completion test, and the fold over the stored frame is not zero. -/
theorem completedFrameWithNonzeroFoldIsRejected : Obligations.CompletedFrameWithNonzeroFoldIsRejected := by
  unfold Obligations.CompletedFrameWithNonzeroFoldIsRejected
  intro s c hb hp htype hlast hfold
  have hexec : execRxbyte c s = .next (reject .checksum (storedState c s)) := by
    rw [execRxbyte_last hb hp htype hlast,
      completeFrame_of_fold_ne_zero ((storedState_complete_iff hp).2 hlast) hfold]
  exact ⟨_, hexec, rfl, rejectedJunk_checksum _, fun hinv => hinv.done_of_begun hb⟩

end Sys2Proof.Machine

/-! The consumer's operations, an equation per operation and what it answers: 42_consumer_ops.md R96 to R103. -/

namespace Sys2Proof.Machine

theorem exec_poll (s : State) :
    exec .poll s = .next (driveOutputs s.done s.done (toggleDue s) 0 (pollState s)) := rfl

theorem exec_rdch (r : Byte) (mid : Half) (s : State) :
    exec (.rdch r mid) s = .next (driveOutputs false false false (channelValue r mid s) s) := rfl

/-! ## POLL -/

/-- A set DONE comes with BAUDOK, and BAUDOK bars the toggle (10_state.md R21 item 5, 42_consumer_ops.md R98). -/
theorem StateInv.toggleDue_of_done {s : State} (hinv : StateInv s) (hd : s.done = true) : toggleDue s = false := by
  obtain ⟨hbaudok, -⟩ := hinv.doneFrame hd
  simp [toggleDue, hbaudok]

/-- Settles O40: the results are DONE and the toggle condition, JUNK and BEGUN follow the toggle, and the frame is
`pollState`'s field by field. -/
theorem pollReadsAndClears : Obligations.PollReadsAndClears := by
  unfold Obligations.PollReadsAndClears
  intro s
  refine ⟨_, exec_poll s, rfl, rfl, rfl, pollState_done s, toggleDue_iff s, fun htoggle => ?_, fun hquiet => ?_,
    pollState_baudok s, pollState_buf s, pollState_pos s, pollState_len s, pollState_label s, pollState_cfg s,
    pollState_inputs s, ?_⟩
  · rw [driveOutputs_cBaudToggle] at htoggle
    simp [pollState_junk, pollState_begun, htoggle]
  · rw [driveOutputs_cBaudToggle] at hquiet
    simp [pollState_junk, pollState_begun, hquiet]
  · rintro hinv ⟨hready, htoggle⟩
    rw [driveOutputs_cReady] at hready
    rw [driveOutputs_cBaudToggle, hinv.toggleDue_of_done hready] at htoggle
    cases htoggle

/-! ## The conversion of ticks (42_consumer_ops.md R103) -/

/-- The sum has 17 bits and the quotient at most 14, so neither the addition nor the truncation wraps. -/
theorem ticksToMicros_toNat (ticks : Half) : (ticksToMicros ticks).toNat = (ticks.toNat + 4) / 8 := by
  have hticks : ticks.toNat < 65536 := ticks.isLt
  have hsum : (ticks.setWidth 17 + 4).toNat = ticks.toNat + 4 := by bv_omega
  have hdivisor : (8 : BitVec 17).toNat = 8 := rfl
  rw [ticksToMicros, BitVec.toNat_setWidth, BitVec.toNat_udiv, hsum, hdivisor]
  omega

/-- A conversion is known from the quotient alone. -/
theorem ticksToMicros_eq_iff (ticks micros : Half) :
    ticksToMicros ticks = micros ↔ (ticks.toNat + 4) / 8 = micros.toNat := by
  rw [← BitVec.toNat_inj, ticksToMicros_toNat]

/-- Settles O47: every clause is a fact about `(ticks + 4) / 8` in the naturals. -/
theorem ticksRoundToNearestMicrosecond : Obligations.TicksRoundToNearestMicrosecond := by
  unfold Obligations.TicksRoundToNearestMicrosecond
  simp only [ticksToMicros_eq_iff]
  refine ⟨fun ticks => ?_, fun ticks hle => ?_, fun ticks hge hle => ?_, by decide, by decide, by decide⟩
  · have hticks : ticks.toNat < 65536 := ticks.isLt
    rw [ticksToMicros_toNat]
    omega
  · have hzero : (0 : Half).toNat = 0 := rfl
    omega
  · have hone : (1 : Half).toNat = 1 := rfl
    omega

/-! ## RDCH -/

theorem channelValue_neutral {r : Byte} {s : State} (h : 16 ≤ r.toNat ∨ s.baudok = false) (mid : Half) :
    channelValue r mid s = mid := by
  rcases h with hrange | hbaudok
  · have hout : channelInRange r = false := by simpa [channelInRange_iff, ← Bool.not_eq_true] using hrange
    simp [channelValue, hout]
  · simp [channelValue, hbaudok]

theorem channelValue_channel {r : Byte} {s : State} (hr : r.toNat < 16) (hbaudok : s.baudok = true) (mid : Half) :
    channelValue r mid s = ticksToMicros (channelTicks s r) := by
  simp [channelValue, (channelInRange_iff r).2 hr, hbaudok]

/-- The channel's two bytes, low byte first, at positions `6 + 2 * r` and `7 + 2 * r` (42_consumer_ops.md R104). -/
theorem channelTicks_toNat {r : Byte} (hr : r.toNat < 16) (s : State) :
    (channelTicks s r).toNat =
      (Memory.read s.buf (6 + 2 * r.toNat)).toNat + 256 * (Memory.read s.buf (7 + 2 * r.toNat)).toNat := by
  have hnext : 6 + 2 * r.toNat + 1 = 7 + 2 * r.toNat := by omega
  rw [channelTicks, channelPosition_toNat hr, Memory.readPair_toNat, hnext]

/-- Settles O44: the answer is the neutral value or the channel's ticks converted, and only the outputs are driven. -/
theorem rdchAnswersTheChannel : Obligations.RdchAnswersTheChannel := by
  unfold Obligations.RdchAnswersTheChannel
  intro s r mid
  refine ⟨_, exec_rdch r mid s, rfl, fun hneutral => channelValue_neutral hneutral mid, fun hr hbaudok => ?_⟩
  rw [driveOutputs_cVal, channelValue_channel hr hbaudok, ticksToMicros_toNat, channelTicks_toNat hr]

/-- Settles O45: the condition for the neutral value speaks of the index and BAUDOK, which the two states share. -/
theorem rdchAnswersTheNeutralValue : Obligations.RdchAnswersTheNeutralValue := by
  unfold Obligations.RdchAnswersTheNeutralValue
  intro s m r mid hneutral
  exact ⟨_, _, exec_rdch r mid s, channelValue_neutral hneutral mid,
    exec_rdch r mid { s with buf := m }, channelValue_neutral (s := { s with buf := m }) hneutral mid⟩

end Sys2Proof.Machine

/-! RST: what it zeroes, and that no other operation clears BAUDOK (70_reset_and_hazards.md R130, R131). -/

namespace Sys2Proof.Machine

/-! ## What RST leaves -/

/-- RST zeroes the buffer and every register; the parameters and the levels to come are not the block's to clear
(70_reset_and_hazards.md R130, R132). -/
theorem exec_rst_zeroes (s : State) :
    ∃ t : State, exec .rst s = .next t ∧
      (∀ a : Nat, Memory.read t.buf a = 0x00) ∧ Memory.wf t.buf = true ∧
      t.pos = 0 ∧ t.len = 0 ∧ t.begun = false ∧ t.done = false ∧ t.baudok = false ∧ t.junk = 0 ∧
      t.cfg = s.cfg ∧ t.inputs = s.inputs :=
  ⟨{ State.resetWith s.cfg with inputs := s.inputs }, rfl, Memory.read_nil, Memory.wf_nil,
    rfl, rfl, rfl, rfl, rfl, rfl, rfl, rfl⟩

/-! ## BAUDOK once set -/

/-- The completion step only ever sets BAUDOK. -/
theorem completeFrame_keeps_baudok {s : State} (h : s.baudok = true) : (completeFrame s).baudok = true := by
  rcases completeFrame_cases s with ⟨-, e⟩ | ⟨-, -, e⟩ | ⟨-, -, e⟩ <;> rw [e]
  · exact h
  · exact acceptFrame_baudok s
  · exact h

@[simp] theorem withLength_baudok (p : Nat) (c : Byte) (s : State) : (withLength p c s).baudok = s.baudok := by
  unfold withLength
  split <;> rfl

/-- An abort leaves BAUDOK alone, and so does a byte that passes its checks. -/
theorem checkStored_keeps_baudok (p : Nat) (c : Byte) {s : State} (h : s.baudok = true) :
    (checkStored p c s).baudok = true := by
  rcases checkStored_cases p c s with ⟨-, -, e⟩ | ⟨-, -, e⟩ | ⟨-, -, e⟩ | ⟨-, -, e⟩ <;> rw [e]
  · exact h
  · exact h
  · exact h
  · exact completeFrame_keeps_baudok ((withLength_baudok p c s).trans h)

@[simp] theorem attemptState_baudok (s : State) : (attemptState s).baudok = s.baudok := by
  unfold attemptState
  split <;> rfl

theorem execRxbyte_keeps_baudok {c : Byte} {s t : State} (hexec : execRxbyte c s = .next t)
    (h : s.baudok = true) : t.baudok = true := by
  rcases execRxbyte_next hexec with ⟨-, -, rfl⟩ | ⟨-, -, rfl⟩
  · exact h
  · exact checkStored_keeps_baudok _ c ((attemptState_baudok s).trans h)

/-- Every operation but RST leaves a set BAUDOK set (70_reset_and_hazards.md R130). -/
theorem exec_keeps_baudok {i : Instr} {s t : State} (hi : i ≠ .rst) (hexec : exec i s = .next t)
    (h : s.baudok = true) : t.baudok = true := by
  cases i with
  | rst => exact absurd rfl hi
  | rxbyte c => exact execRxbyte_keeps_baudok hexec h
  | poll => cases hexec; exact (pollState_baudok s).trans h
  | norst => cases hexec; exact h
  | pidle => cases hexec; exact h
  | cidle => cases hexec; exact h
  | rdch r mid => cases hexec; exact h
  | crsv => cases hexec; exact h

/-- Settles O13: an operation that cleared BAUDOK is not one of those that keep it. -/
theorem rstZeroesTheBlock : Obligations.RstZeroesTheBlock := by
  unfold Obligations.RstZeroesTheBlock
  refine ⟨exec_rst_zeroes, fun i s t hexec hset hclear => ?_⟩
  by_contra hi
  have hkept : t.baudok = true := exec_keeps_baudok hi hexec hset
  rw [hclear] at hkept
  cases hkept

/-- Settles O10: the cycle is RST alone, on the state with the cycle's levels taken, whatever the two ports present. -/
theorem resetPinOverridesBothPorts : Obligations.ResetPinOverridesBothPorts := by
  unfold Obligations.ResetPinOverridesBothPorts
  intro s x rest hinputs hrst
  have hstep : step s = exec .rst { s with inputs := rest } := by
    rw [step_of_inputs_cons hinputs, runCycle_decode_of_rst_eq_one hrst]
  obtain ⟨t, hexec, hbuf, -, hpos, hlen, hbegun, hdone, hbaudok, hjunk, hcfg, hrest⟩ :=
    exec_rst_zeroes { s with inputs := rest }
  exact ⟨t, hstep.trans hexec, hbuf, hpos, hlen, hbegun, hdone, hbaudok, hjunk, exec_rst_outputs hexec, hcfg, hrest⟩

end Sys2Proof.Machine

/-! What a stored byte leads to, as one label: the verdict of the checks of 41_frame_assembler.md R86 on the state
before the store, and the state it is carried out on. -/

namespace Sys2Proof.Machine

/-! ## The verdict on a stored byte -/

/-- The checks on the byte's position are passed: a length in range, the RC type (41_frame_assembler.md R81, R82). -/
def Passes (c : Byte) (s : State) : Prop :=
  (s.pos.toNat = 2 → 3 ≤ c.toNat ∧ c.toNat ≤ 70) ∧ (s.pos.toNat = 4 → c = s.cfg.rcType)

/-- The outcome of RXBYTE in Assembling, by the order of 41_frame_assembler.md R86; `execRxbyte_eq_conclude` ties it to
the model. -/
def verdict (c : Byte) (s : State) : Label :=
  if s.pos.toNat = 2 ∧ 70 < c.toNat then .rejected .oversize
  else if s.pos.toNat = 2 ∧ c.toNat < 3 then .rejected .short
  else if s.pos.toNat = 4 ∧ c ≠ s.cfg.rcType then .rejected .packetType
  else if s.pos.toNat + 1 ≠ (lengthAfter c s).toNat then .stored
  else if Memory.fold (bufferAfter c s) (lengthAfter c s).toNat = 0x0000 then .accept
  else .rejected .checksum

/-- What each verdict does to the state the byte was stored in. -/
def conclude (l : Label) (s : State) : State :=
  match l with
  | .stored => withLabel (some .stored) s
  | .accept => acceptFrame s
  | .rejected e => reject e s

@[simp] theorem conclude_buf (l : Label) (s : State) : (conclude l s).buf = s.buf := by cases l <;> rfl
@[simp] theorem conclude_pos (l : Label) (s : State) : (conclude l s).pos = s.pos := by cases l <;> rfl
@[simp] theorem conclude_cfg (l : Label) (s : State) : (conclude l s).cfg = s.cfg := by cases l <;> rfl
@[simp] theorem conclude_inputs (l : Label) (s : State) : (conclude l s).inputs = s.inputs := by cases l <;> rfl

theorem passes_of_verdict_stored {c : Byte} {s : State} (h : verdict c s = .stored) :
    Passes c s ∧ s.pos.toNat + 1 ≠ (lengthAfter c s).toNat := by
  unfold verdict at h
  split_ifs at h with hover hshort htype hmore
  exact ⟨⟨by omega, by tauto⟩, hmore⟩

theorem passes_of_verdict_accept {c : Byte} {s : State} (h : verdict c s = .accept) :
    Passes c s ∧ s.pos.toNat + 1 = (lengthAfter c s).toNat ∧
      Memory.fold (bufferAfter c s) (lengthAfter c s).toNat = 0x0000 := by
  unfold verdict at h
  split_ifs at h with hover hshort htype hmore hfold
  exact ⟨⟨by omega, by tauto⟩, not_not.1 hmore, hfold⟩

/-- A stored byte is no junk byte. -/
theorem verdict_ne_junk (c : Byte) (s : State) : verdict c s ≠ .rejected .junk := by
  unfold verdict
  split_ifs <;> simp

/-- RXBYTE in Assembling stores the byte and carries out the verdict on it. -/
theorem execRxbyte_eq_conclude {c : Byte} {s : State} (hb : s.begun = true) (hp : s.pos.toNat < 70) :
    execRxbyte c s = .next (conclude (verdict c s) (storedState c s)) := by
  rcases execRxbyte_assembling_cases c hb hp with
    ⟨h2, hc, e⟩ | ⟨h2, hc, e⟩ | ⟨h4, hc, e⟩ | ⟨h2, h4, e⟩ <;> rw [e]
  · simp [verdict, h2, hc, conclude]
  · have hle : ¬ 70 < c.toNat := by omega
    simp [verdict, h2, hc, hle, conclude]
  · simp [verdict, h4, hc, conclude]
  · have hover : ¬ (s.pos.toNat = 2 ∧ 70 < c.toNat) := by omega
    have hshort : ¬ (s.pos.toNat = 2 ∧ c.toNat < 3) := by omega
    have htype : ¬ (s.pos.toNat = 4 ∧ c ≠ s.cfg.rcType) := by tauto
    rw [verdict, if_neg hover, if_neg hshort, if_neg htype]
    split_ifs with hlast hfold
    · rw [completeFrame_of_incomplete (mt (storedState_complete_iff hp).1 hlast)]
      rfl
    · rw [completeFrame_of_fold_eq_zero ((storedState_complete_iff hp).2 (not_not.1 hlast)) hfold]
      rfl
    · rw [completeFrame_of_fold_ne_zero ((storedState_complete_iff hp).2 (not_not.1 hlast)) hfold]
      rfl

/-! ## RXBYTE from every state -/

theorem attemptState_of_begun {s : State} (h : s.begun = true) : attemptState s = s := if_pos h

theorem attemptState_of_seeking {s : State} (h : s.begun = false) : attemptState s = beginAttempt s := by
  simp [attemptState, h]

@[simp] theorem attemptState_begun (s : State) : (attemptState s).begun = true := by
  cases h : s.begun with
  | true => rwa [attemptState_of_begun h]
  | false => rw [attemptState_of_seeking h, beginAttempt_begun]

@[simp] theorem attemptState_buf (s : State) : (attemptState s).buf = s.buf := by unfold attemptState; split <;> rfl
@[simp] theorem attemptState_junk (s : State) : (attemptState s).junk = s.junk := by unfold attemptState; split <;> rfl
@[simp] theorem attemptState_cfg (s : State) : (attemptState s).cfg = s.cfg := by unfold attemptState; split <;> rfl
@[simp] theorem attemptState_inputs (s : State) : (attemptState s).inputs = s.inputs := by
  unfold attemptState; split <;> rfl

/-- The cursor of the attempt is the position the byte is stored at. -/
theorem attemptState_pos (s : State) : (attemptState s).pos.toNat = storePosition s := by
  cases h : s.begun with
  | true => simp [attemptState_of_begun, storePosition, h]
  | false => simp [attemptState_of_seeking, storePosition, h]

/-- A byte that is not junk is taken as in Assembling, by the attempt in progress or by a fresh one. -/
theorem execRxbyte_attemptState {c : Byte} {s : State} (h : s.begun = true ∨ c = s.cfg.startMarker) :
    execRxbyte c s = execRxbyte c (attemptState s) := by
  cases hb : s.begun with
  | true => rw [attemptState_of_begun hb]
  | false =>
    rw [attemptState_of_seeking hb]
    exact execRxbyte_startMarker hb (h.resolve_left (by simp [hb]))

/-- If RXBYTE goes on, the byte was junk, or it was stored and its verdict carried out. -/
theorem execRxbyte_next_cases {c : Byte} {s t : State} (h : execRxbyte c s = .next t) :
    (s.begun = false ∧ c ≠ s.cfg.startMarker ∧ t = reject .junk s) ∨
    ((s.begun = true ∨ c = s.cfg.startMarker) ∧ storePosition s < 70 ∧
      t = conclude (verdict c (attemptState s)) (storedState c (attemptState s))) := by
  rcases execRxbyte_next h with hjunk | ⟨hattempt, hp, -⟩
  · exact .inl hjunk
  · have hexec := execRxbyte_eq_conclude (c := c) (attemptState_begun s) hp
    rw [← execRxbyte_attemptState hattempt, h] at hexec
    exact .inr ⟨hattempt, attemptState_pos s ▸ hp, by simpa using hexec⟩

/-! ## An attempt's invariant, at its start and after each stored byte -/

/-- What holds of an attempt from its start, the cursor at 0, to the state in which its last byte was stored, the
cursor at LEN; between the two it is `StateInv` of a state in Assembling (10_state.md R21). -/
structure AttemptInv (s : State) : Prop where
  bufWf : Memory.wf s.buf = true
  begun : s.begun = true
  notDone : s.done = false
  posLe : s.pos.toNat ≤ s.len.toNat
  lenLe : s.len.toNat ≤ 70
  lenBefore : s.pos.toNat ≤ 2 → s.len = 7
  lenAfter : 3 ≤ s.pos.toNat → s.len = Memory.read s.buf 2 ∧ 3 ≤ s.len.toNat
  marker : 1 ≤ s.pos.toNat → Memory.read s.buf 0 = s.cfg.startMarker
  type : 5 ≤ s.pos.toNat → Memory.read s.buf 4 = s.cfg.rcType

theorem StateInv.attemptInv {s : State} (hinv : StateInv s) (hb : s.begun = true) : AttemptInv s := by
  obtain ⟨hpos, hlt, hcap⟩ := hinv.assembling hb
  exact ⟨hinv.bufWf, hb, hinv.done_of_begun hb, hlt.le, hcap, hinv.lenBefore hb, hinv.lenAfter hb,
    fun _ => hinv.markerStored hb, hinv.typeStored hb⟩

theorem beginAttempt_attemptInv {s : State} (hwf : Memory.wf s.buf = true) : AttemptInv (beginAttempt s) where
  bufWf := hwf
  begun := rfl
  notDone := rfl
  posLe := by simp
  lenLe := by simp
  lenBefore := fun _ => rfl
  lenAfter := by simp
  marker := by simp
  type := by simp

/-- The attempt a byte is stored in has room for it, in every state of the invariant. -/
theorem StateInv.attemptInv_attemptState {s : State} (hinv : StateInv s) :
    AttemptInv (attemptState s) ∧ (attemptState s).pos.toNat < (attemptState s).len.toNat := by
  cases hb : s.begun with
  | true =>
    rw [attemptState_of_begun hb]
    exact ⟨hinv.attemptInv hb, (hinv.assembling hb).2.1⟩
  | false =>
    rw [attemptState_of_seeking hb]
    exact ⟨beginAttempt_attemptInv hinv.bufWf, by simp⟩

/-- Storing a byte that passes its checks keeps the attempt's invariant. -/
theorem AttemptInv.after_store {c : Byte} {s : State} (hs : AttemptInv s) (hlt : s.pos.toNat < s.len.toNat)
    (hmarker : s.pos.toNat = 0 → c = s.cfg.startMarker) (hpass : Passes c s) : AttemptInv (storedState c s) := by
  obtain ⟨hlength, htype⟩ := hpass
  have hcap := hs.lenLe
  have hpos : (storedState c s).pos.toNat = s.pos.toNat + 1 := pos_succ_toNat (by omega)
  have hbefore := hs.lenBefore
  have hread (a : Nat) : Memory.read (storedState c s).buf a =
      if a = s.pos.toNat then c else Memory.read s.buf a := Memory.read_write hs.bufWf s.pos.toNat a c
  have hlen : (storedState c s).len = if s.pos.toNat = 2 then c else s.len := rfl
  refine ⟨Memory.wf_write hs.bufWf (by omega) c, hs.begun, hs.notDone, ?_, ?_, ?_, ?_, ?_, ?_⟩
  · rw [hpos, hlen]; split <;> omega
  · rw [hlen]; split <;> omega
  · intro h
    rw [hlen, if_neg (by omega)]
    exact hbefore (by omega)
  · intro h
    rw [hlen, hread]
    by_cases h2 : s.pos.toNat = 2
    · simp [h2, hlength h2]
    · simp only [h2, Ne.symm h2, if_false]
      exact hs.lenAfter (by omega)
  · intro _
    rw [hread]
    split
    · next h0 => exact hmarker h0.symm
    · next h0 => exact hs.marker (by omega)
  · intro _
    rw [hread]
    split
    · next h4 => exact htype h4.symm
    · next h4 => exact hs.type (by omega)

/-! ## The verdicts keep the invariants -/

/-- An attempt with a byte stored and bytes to come is a state of the invariant. -/
theorem AttemptInv.stateInv {s : State} (hs : AttemptInv s) (hpos : 1 ≤ s.pos.toNat)
    (hlt : s.pos.toNat < s.len.toNat) : StateInv s where
  bufWf := hs.bufWf
  posBound := by have := hs.lenLe; omega
  assembling := fun _ => ⟨hpos, hlt, hs.lenLe⟩
  lenBefore := fun _ => hs.lenBefore
  lenAfter := fun _ => hs.lenAfter
  markerStored := fun _ => hs.marker hpos
  typeStored := fun _ => hs.type
  doneFrame := by simp [hs.notDone]
  doneMarker := by simp [hs.notDone]

/-- In Seeking with DONE clear the invariants ask for the buffer's form and the cursor's bound alone. -/
theorem stateInv_of_seeking {s : State} (hwf : Memory.wf s.buf = true) (hpos : s.pos.toNat ≤ 70)
    (hb : s.begun = false) (hd : s.done = false) : StateInv s := by
  constructor <;> simp [hwf, hpos, hb, hd]

/-- The invariants say nothing about the ghost label. -/
theorem StateInv.withLabel {s : State} (hinv : StateInv s) (l : Option Label) : StateInv (withLabel l s) :=
  { hinv with }

/-- A complete attempt with a zero fold, accepted, is a state of the invariant. -/
theorem AttemptInv.stateInv_acceptFrame {s : State} (hs : AttemptInv s) (hlast : s.pos.toNat = s.len.toNat)
    (hfold : Memory.fold s.buf s.len.toNat = 0x0000) : StateInv (acceptFrame s) := by
  have hthree : 3 ≤ s.len.toNat := by
    by_contra hshort
    rw [hs.lenBefore (by omega)] at hshort
    exact hshort (by decide)
  have hcap := hs.lenLe
  constructor
  case bufWf => exact hs.bufWf
  case posBound => exact hlast ▸ hcap
  case doneFrame => exact fun _ => ⟨rfl, rfl, hlast, hthree, hcap, hfold⟩
  case doneMarker => exact fun _ => ⟨hs.marker (by omega), fun h5 => hs.type (hlast ▸ h5)⟩
  all_goals simp

/-- Every verdict on a byte for which an attempt has room ends in a state of the invariant. -/
theorem AttemptInv.stateInv_conclude {c : Byte} {s : State} (hs : AttemptInv s) (hlt : s.pos.toNat < s.len.toNat)
    (hmarker : s.pos.toNat = 0 → c = s.cfg.startMarker) :
    StateInv (conclude (verdict c s) (storedState c s)) := by
  have hp : s.pos.toNat < 70 := lt_of_lt_of_le hlt hs.lenLe
  have hpos : (storedState c s).pos.toNat = s.pos.toNat + 1 := pos_succ_toNat hp
  cases hv : verdict c s with
  | stored =>
    obtain ⟨hpass, hmore⟩ := passes_of_verdict_stored hv
    have hnext := hs.after_store hlt hmarker hpass
    have hle := hnext.posLe
    have hne := mt (storedState_complete_iff hp).1 hmore
    exact (hnext.stateInv (by omega) (by omega)).withLabel _
  | accept =>
    obtain ⟨hpass, hlast, hfold⟩ := passes_of_verdict_accept hv
    exact (hs.after_store hlt hmarker hpass).stateInv_acceptFrame ((storedState_complete_iff hp).2 hlast) hfold
  | rejected e =>
    refine stateInv_of_seeking (Memory.wf_write hs.bufWf hp c) ?_ rfl hs.notDone
    rw [conclude_pos]
    omega

end Sys2Proof.Machine

/-! What every operation keeps: the invariants of 10_state.md R21, the parameters and the levels to come, and for the
consumer's operations everything but their flags (60_exceptions.md R118). -/

namespace Sys2Proof.Machine

/-! ## The frame of each operation -/

/-- RXBYTE writes neither the parameters nor the levels to come. -/
theorem execRxbyte_keeps_cfg_inputs {c : Byte} {s t : State} (h : execRxbyte c s = .next t) :
    t.cfg = s.cfg ∧ t.inputs = s.inputs := by
  rcases execRxbyte_next_cases h with ⟨-, -, rfl⟩ | ⟨-, -, rfl⟩
  · exact ⟨rfl, rfl⟩
  · rw [conclude_cfg, conclude_inputs]
    exact ⟨attemptState_cfg s, attemptState_inputs s⟩

/-- No operation writes the parameters or the levels to come (70_reset_and_hazards.md R142). -/
theorem exec_keeps_cfg_inputs {i : Instr} {s t : State} (h : exec i s = .next t) :
    t.cfg = s.cfg ∧ t.inputs = s.inputs := by
  cases i with
  | rxbyte c => exact execRxbyte_keeps_cfg_inputs h
  | poll => cases h; exact ⟨pollState_cfg s, pollState_inputs s⟩
  | rst => cases h; exact ⟨rfl, rfl⟩
  | norst => cases h; exact ⟨rfl, rfl⟩
  | pidle => cases h; exact ⟨rfl, rfl⟩
  | cidle => cases h; exact ⟨rfl, rfl⟩
  | rdch r mid => cases h; exact ⟨rfl, rfl⟩
  | crsv => cases h; exact ⟨rfl, rfl⟩

/-- RXBYTE leaves the buffer alone or stores its byte at the store position, inside the buffer. -/
theorem execRxbyte_buf {c : Byte} {s t : State} (h : execRxbyte c s = .next t) :
    t.buf = s.buf ∨ (storePosition s < 70 ∧ t.buf = Memory.write s.buf (storePosition s) c) := by
  rcases execRxbyte_next_cases h with ⟨-, -, rfl⟩ | ⟨-, hp, rfl⟩
  · exact .inl rfl
  · refine .inr ⟨hp, ?_⟩
    rw [conclude_buf, ← attemptState_pos, ← attemptState_buf s]
    rfl

/-- Settles O48: only POLL writes more than the output pins, and `pollState` says what. -/
theorem consumerWritesOnlyItsFlags : Obligations.ConsumerWritesOnlyItsFlags := by
  unfold Obligations.ConsumerWritesOnlyItsFlags
  intro i s hport
  cases i with
  | rst => cases hport
  | norst => cases hport
  | rxbyte c => cases hport
  | pidle => cases hport
  | cidle => exact ⟨_, rfl, by simp⟩
  | crsv => exact ⟨_, rfl, by simp⟩
  | rdch r mid => exact ⟨_, exec_rdch r mid s, by simp⟩
  | poll =>
    refine ⟨_, exec_poll s, ?_⟩
    cases htoggle : toggleDue s <;> simp [pollState_junk, pollState_begun, htoggle]

/-! ## The invariants -/

theorem resetWith_stateInv (cfg : Config) : StateInv (State.resetWith cfg) :=
  stateInv_of_seeking Memory.wf_nil (by simp) rfl rfl

/-- Settles O55: the buffer is empty, the cursor 0, the assembler in Seeking and DONE clear. -/
theorem resetSatisfiesTheInvariant : Obligations.ResetSatisfiesTheInvariant := by
  unfold Obligations.ResetSatisfiesTheInvariant
  exact ⟨resetWith_stateInv, resetWith_stateInv Config.default⟩

/-- RXBYTE goes on from every state of the invariant, to one of the invariant. -/
theorem execRxbyte_keeps_stateInv {s : State} (hinv : StateInv s) (c : Byte) :
    ∃ t, execRxbyte c s = .next t ∧ StateInv t := by
  by_cases hjunk : s.begun = false ∧ c ≠ s.cfg.startMarker
  · obtain ⟨hb, hc⟩ := hjunk
    refine ⟨_, execRxbyte_junk hb hc, ?_⟩
    exact { hinv with
      assembling := by simp, lenBefore := by simp, lenAfter := by simp, markerStored := by simp, typeStored := by simp
      doneFrame := fun hd =>
        let ⟨hbaudok, _, hframe⟩ := hinv.doneFrame hd
        ⟨hbaudok, rfl, hframe⟩ }
  · have hattempt : s.begun = true ∨ c = s.cfg.startMarker := by
      cases hb : s.begun <;> simp_all
    obtain ⟨hs, hlt⟩ := hinv.attemptInv_attemptState
    refine ⟨_, ?_, hs.stateInv_conclude (c := c) hlt fun hzero => ?_⟩
    · rw [execRxbyte_attemptState hattempt]
      exact execRxbyte_eq_conclude hs.begun (lt_of_lt_of_le hlt hs.lenLe)
    · rw [attemptState_cfg]
      refine hattempt.resolve_left fun hb => ?_
      rw [attemptState_of_begun hb] at hzero
      have := hinv.assembling hb
      omega

/-- The invariants say nothing about the output pins. -/
theorem StateInv.driveOutputs {s : State} (hinv : StateInv s) (ready fsClear toggle : Bool) (val : Half) :
    StateInv (driveOutputs ready fsClear toggle val s) :=
  { hinv with }

theorem StateInv.pollState {s : State} (hinv : StateInv s) : StateInv (pollState s) := by
  unfold Machine.pollState
  split
  · exact stateInv_of_seeking hinv.bufWf hinv.posBound rfl rfl
  · exact { hinv with doneFrame := by simp, doneMarker := by simp }

/-- Settles O57: RXBYTE by the verdict on its byte, RST by the post-RST state, and the rest write none of what the
invariants read, POLL apart, which clears flags. -/
theorem everyOperationCompletes : Obligations.EveryOperationCompletes := by
  unfold Obligations.EveryOperationCompletes
  intro i s hinv
  have hkeeps : ∃ t, exec i s = .next t ∧ StateInv t := by
    cases i with
    | rst => exact ⟨_, rfl, { resetWith_stateInv s.cfg with }⟩
    | norst => exact ⟨s, rfl, hinv⟩
    | rxbyte c => exact execRxbyte_keeps_stateInv hinv c
    | pidle => exact ⟨_, rfl, hinv.withLabel none⟩
    | cidle => exact ⟨_, rfl, hinv.driveOutputs _ _ _ _⟩
    | poll => exact ⟨_, exec_poll s, hinv.pollState.driveOutputs _ _ _ _⟩
    | rdch r mid => exact ⟨_, exec_rdch r mid s, hinv.driveOutputs _ _ _ _⟩
    | crsv => exact ⟨_, rfl, hinv.driveOutputs _ _ _ _⟩
  obtain ⟨t, hexec, ht⟩ := hkeeps
  exact ⟨t, hexec, ht, (exec_keeps_cfg_inputs hexec).1⟩

/-! ## The clock cycle -/

theorem exec_keeps_stateInv {i : Instr} {s t : State} (hinv : StateInv s) (h : exec i s = .next t) : StateInv t := by
  obtain ⟨u, hexec, hu, -⟩ := everyOperationCompletes i s hinv
  cases h.symm.trans hexec
  exact hu

/-- A cycle of any three operations goes on from a state of the invariant, to one of the invariant. -/
theorem runCycle_keeps_stateInv (k : Cycle) {s : State} (hinv : StateInv s) :
    ∃ t, runCycle k s = .next t ∧ StateInv t := by
  unfold runCycle
  split
  · obtain ⟨t, hexec, ht, -⟩ := everyOperationCompletes .rst s hinv
    exact ⟨t, hexec, ht⟩
  · obtain ⟨s1, hreset, h1, -⟩ := everyOperationCompletes k.reset s hinv
    obtain ⟨s2, hproducer, h2, -⟩ := everyOperationCompletes k.producer s1 h1
    obtain ⟨t, hconsumer, ht, -⟩ := everyOperationCompletes k.consumer s2 h2
    exact ⟨t, by rw [hreset, andThen_next, hproducer, andThen_next, hconsumer], ht⟩

theorem StateInv.takePins {s : State} (hinv : StateInv s) : StateInv (takePins s) := { hinv with }

/-- The step goes on from every state of the invariant, to one of the invariant. -/
theorem step_keeps_stateInv {s : State} (hinv : StateInv s) : ∃ t, step s = .next t ∧ StateInv t :=
  runCycle_keeps_stateInv _ hinv.takePins

/-! ## Runs -/

/-- A run of the machine, its outcome over the model's own types. -/
def runSteps (n : Nat) (s : State) : Host.Outcome State Fault Refusal := Host.Core.run core n s

theorem run_succ_of_next {M : Host.Core} {s u : M.State} (h : M.step s = .next u) (n : Nat) :
    M.run (n + 1) s = M.run n u := by
  rw [Host.Core.run, h]

theorem run_succ_of_fault {M : Host.Core} {s : M.State} {r : M.Fault} (h : M.step s = .fault r) (n : Nat) :
    M.run (n + 1) s = .fault r := by
  rw [Host.Core.run, h]

theorem run_succ_of_refused {M : Host.Core} {s : M.State} {r : M.Refusal} (h : M.step s = .refused r) (n : Nat) :
    M.run (n + 1) s = .refused r := by
  rw [Host.Core.run, h]

/-- A run is its first step, and the rest of the run from the state that step leaves. -/
theorem runSteps_succ (n : Nat) (s : State) : runSteps (n + 1) s = andThen (step s) (runSteps n) := by
  cases h : step s with
  | next u => exact run_succ_of_next (M := core) h n
  | fault r => exact run_succ_of_fault (M := core) h n
  | refused r => exact run_succ_of_refused (M := core) h n

/-- Settles O58, by induction on the number of steps. -/
theorem runsNeverStop : Obligations.RunsNeverStop := by
  unfold Obligations.RunsNeverStop
  intro n
  change ∀ s, StateInv s → ∃ t, runSteps n s = .next t ∧ StateInv t
  induction n with
  | zero => exact fun s hinv => ⟨s, rfl, hinv⟩
  | succ n ih =>
    intro s hinv
    obtain ⟨u, hstep, hu⟩ := step_keeps_stateInv hinv
    rw [runSteps_succ, hstep, andThen_next]
    exact ih u hu

/-- Settles O54: the step takes one cycle's levels, and its operations keep the parameters and the rest. -/
theorem stepKeepsTheParameters : Obligations.StepKeepsTheParameters := by
  unfold Obligations.StepKeepsTheParameters
  intro s t h
  rcases runCycle_next h with ⟨-, hrst⟩ | ⟨-, s1, s2, hreset, hproducer, hconsumer⟩
  · exact exec_keeps_cfg_inputs hrst
  · obtain ⟨hcfg1, hin1⟩ := exec_keeps_cfg_inputs hreset
    obtain ⟨hcfg2, hin2⟩ := exec_keeps_cfg_inputs hproducer
    obtain ⟨hcfg3, hin3⟩ := exec_keeps_cfg_inputs hconsumer
    exact ⟨hcfg3.trans (hcfg2.trans hcfg1), hin3.trans (hin2.trans hin1)⟩

/-! ## What a cycle without RST writes -/

theorem decodeProducer_pins (x : Pins) :
    decodeProducer x.producerWord = if x.rxValid = 1#1 then .rxbyte x.rxData else .pidle := by
  rcases BitVec.eq_zero_or_eq_one x.rxValid with h | h
  · rw [Pins.producerWord, h, decodeProducer_pidle, if_neg (by decide)]
  · rw [Pins.producerWord, h, decodeProducer_rxbyte, if_pos rfl]

/-- The decoder of format C answers the consumer's operations alone. -/
theorem decodeConsumer_port (w : BitVec 26) : (decodeConsumer w).port = .consumer := by
  unfold decodeConsumer
  split_ifs <;> rfl

theorem decodeProducer_port (w : BitVec 9) : (decodeProducer w).port = .producer := by
  unfold decodeProducer
  split_ifs <;> rfl

/-- A cycle without RST that goes on is the producer port's operation, then the consumer port's. -/
theorem step_next_of_rst_ne_one {s t : State} (hrst : (nextPins s).rst ≠ 1#1) (h : step s = .next t) :
    ∃ u, exec (decodeProducer (nextPins s).producerWord) (takePins s) = .next u ∧
      exec (decodeConsumer (nextPins s).consumerWord) u = .next t := by
  have hzero : (nextPins s).rst = 0#1 := (BitVec.eq_zero_or_eq_one _).resolve_right hrst
  rw [step, runCycle_decode_of_rst_eq_zero hzero] at h
  exact andThen_eq_next h

/-- The consumer's operations leave the buffer alone. -/
theorem exec_consumer_buf {i : Instr} {s t : State} (hport : i.port = .consumer) (h : exec i s = .next t) :
    t.buf = s.buf := by
  obtain ⟨u, hexec, hbuf, -⟩ := consumerWritesOnlyItsFlags i s hport
  cases h.symm.trans hexec
  exact hbuf

/-- Where the producer port changes the buffer, a byte was presented and stands at the store position. -/
theorem exec_producer_changes {x : Pins} {s t : State} {a : Nat} (hwf : Memory.wf s.buf = true)
    (h : exec (decodeProducer x.producerWord) s = .next t) (ha : Memory.read t.buf a ≠ Memory.read s.buf a) :
    x.rxValid = 1#1 ∧ a = storePosition s ∧ a ≤ 69 ∧ Memory.read t.buf a = x.rxData := by
  rw [decodeProducer_pins] at h
  split at h
  case isFalse hidle =>
    cases h
    exact absurd rfl ha
  case isTrue hvalid =>
    rcases execRxbyte_buf h with hbuf | ⟨hp, hbuf⟩
    · rw [hbuf] at ha
      exact absurd rfl ha
    · have hat : a = storePosition s := by
        by_contra hother
        rw [hbuf] at ha
        exact ha (Memory.read_write_other s.buf _ hother)
      rw [hat, hbuf]
      exact ⟨hvalid, rfl, Nat.le_of_lt_succ hp, Memory.read_write_same hwf _ _⟩

/-- Settles O56: the invariants by the cycle's operations in turn; BAUDOK since neither port presents RST; the buffer
since the consumer's operation leaves it alone. -/
theorem stepKeepsTheInvariant : Obligations.StepKeepsTheInvariant := by
  unfold Obligations.StepKeepsTheInvariant
  intro s t hinv hstep
  refine ⟨?inv, fun hrst hbaudok => ?baudok, fun hrst a ha => ?buffer⟩
  case inv =>
    obtain ⟨u, hexec, hu⟩ := step_keeps_stateInv hinv
    cases hstep.symm.trans hexec
    exact hu
  case baudok =>
    obtain ⟨u, hproducer, hconsumer⟩ := step_next_of_rst_ne_one hrst hstep
    have hnotRst {i : Instr} (hport : i.port ≠ .reset) : i ≠ .rst := fun h => hport (h ▸ rfl)
    have hu : u.baudok = true :=
      exec_keeps_baudok (hnotRst (by simp [decodeProducer_port])) hproducer hbaudok
    exact exec_keeps_baudok (hnotRst (by simp [decodeConsumer_port])) hconsumer hu
  case buffer =>
    obtain ⟨u, hproducer, hconsumer⟩ := step_next_of_rst_ne_one hrst hstep
    rw [exec_consumer_buf (decodeConsumer_port _) hconsumer] at ha ⊢
    exact exec_producer_changes (s := takePins s) hinv.bufWf hproducer ha

end Sys2Proof.Machine

/-! The encoder against the decoders: words, bytes, pins and the opcode table of 30_encoding.md R52, R58. -/

namespace Sys2Proof.Machine

/-! ## Words (30_encoding.md R52) -/

/-- Every operation's word has the width of its port. -/
theorem encodeWord_lt (i : Instr) : encodeWord i < 2 ^ i.port.width := by
  cases i with
  | rst => exact Laws.EncodingFitsPort.rst
  | norst => exact Laws.EncodingFitsPort.norst
  | rxbyte c => exact Laws.EncodingFitsPort.rxbyte c
  | pidle => exact Laws.EncodingFitsPort.pidle
  | cidle => exact Laws.EncodingFitsPort.cidle
  | poll => exact Laws.EncodingFitsPort.poll
  | rdch r mid => exact Laws.EncodingFitsPort.rdch r mid
  | crsv => exact Laws.EncodingFitsPort.crsv

/-- The port's decoder reads the operation back from its word, every operand at every value. -/
theorem decodePort_encodeWord (i : Instr) : decodePort i.port (encodeWord i) = i := by
  cases i with
  | rst => rfl
  | norst => rfl
  | rxbyte c =>
    change decodeProducer (BitVec.ofNat 9 (1#1 ++ c).toNat) = _
    rw [BitVec.ofNat_toNat, BitVec.setWidth_eq, decodeProducer_rxbyte]
  | pidle => rfl
  | cidle => rfl
  | poll => rfl
  | rdch r mid =>
    change decodeConsumer (BitVec.ofNat 26 (2#2 ++ r ++ mid).toNat) = _
    rw [BitVec.ofNat_toNat, BitVec.setWidth_eq, decodeConsumer_rdch]
  | crsv => rfl

/-! ## Bytes (the model's carrier, log 11) -/

@[simp] theorem length_carrier (n w : Nat) : (carrier n w).length = n := by
  induction n generalizing w with
  | zero => rfl
  | succ n ih => simp [carrier, ih]

/-- The carrier loses nothing of a number that its bytes can hold. -/
theorem carried_carrier {n w : Nat} (h : w < 256 ^ n) : carried (carrier n w) = w := by
  induction n generalizing w with
  | zero =>
    have hzero : w = 0 := by omega
    rw [hzero]
    rfl
  | succ n ih =>
    have hrest : w / 256 < 256 ^ n := Nat.div_lt_of_lt_mul (by rwa [pow_succ'] at h)
    rw [carrier, carried, ih hrest, BitVec.toNat_ofNat]
    exact Nat.mod_add_div w 256

theorem portOfBytes_bytes (p : Port) : portOfBytes p.bytes = some p := by
  cases p <;> rfl

/-- A port's word fits in the port's bytes. -/
theorem two_pow_width_le (p : Port) : 2 ^ p.width ≤ 256 ^ p.bytes := by
  cases p <;> decide

/-- Settles O1: the carrier brings the operation's word back, its length names the port, and the port's decoder reads
the operation from it. -/
theorem decodeOfEncodeIsTheOperation : Obligations.DecodeOfEncodeIsTheOperation := by
  unfold Obligations.DecodeOfEncodeIsTheOperation
  intro i
  have hlt : encodeWord i < 2 ^ i.port.width := encodeWord_lt i
  have hcarried : carried (encode i) = encodeWord i := carried_carrier (hlt.trans_le (two_pow_width_le i.port))
  have hport : portOfBytes (encode i).length = some i.port := by
    rw [encode, length_carrier, portOfBytes_bytes]
  rw [decode, hport, hcarried]
  exact (if_pos hlt).trans (congrArg _ (decodePort_encodeWord i))

/-- Settles O5: each word is a literal, and the decoder is evaluated on it. -/
theorem writtenOutWordsDecode : Obligations.WrittenOutWordsDecode := by
  unfold Obligations.WrittenOutWordsDecode
  decide

/-! ## Pins -/

/-- The pins that carry three words present the three operations the decoders read from them. -/
theorem decode_ofWords (r : BitVec 1) (p : BitVec 9) (c : BitVec 26) :
    (Pins.ofWords r p c).decode = ⟨decodeReset r, decodeProducer p, decodeConsumer c⟩ := by
  have hproducer : p.extractLsb' 8 1 ++ p.extractLsb' 0 8 = p :=
    (BitVec.extractLsb'_append_extractLsb'_eq_extractLsb' rfl).trans BitVec.extractLsb'_eq_self
  have hconsumer : c.extractLsb' 24 2 ++ c.extractLsb' 16 8 ++ c.extractLsb' 0 16 = c := by
    have hhigh : c.extractLsb' 24 2 ++ c.extractLsb' 16 8 = c.extractLsb' 16 10 :=
      BitVec.extractLsb'_append_extractLsb'_eq_extractLsb' rfl
    rw [hhigh]
    exact (BitVec.extractLsb'_append_extractLsb'_eq_extractLsb' rfl).trans BitVec.extractLsb'_eq_self
  simp only [Pins.decode, Pins.ofWords, Pins.producerWord, Pins.consumerWord, hproducer, hconsumer]

/-- An operation that fits a port is read back by that port's decoder. -/
theorem decodePort_of_fits {p : Port} {i : Instr} (h : i.fits p = true) : decodePort p (encodeWord i) = i := by
  have hport : i.port = p := of_decide_eq_true h
  rw [← hport, decodePort_encodeWord]

/-- Settles O2: each port's decoder reads its own operation back. -/
theorem decodedPinsOfACycleAreTheCycle : Obligations.DecodedPinsOfACycleAreTheCycle := by
  unfold Obligations.DecodedPinsOfACycleAreTheCycle
  intro k hwf
  simp only [Cycle.wellFormed, Bool.and_eq_true] at hwf
  obtain ⟨⟨hreset, hproducer⟩, hconsumer⟩ := hwf
  have hr : decodeReset (BitVec.ofNat 1 (encodeWord k.reset)) = k.reset := decodePort_of_fits hreset
  have hp : decodeProducer (BitVec.ofNat 9 (encodeWord k.producer)) = k.producer := decodePort_of_fits hproducer
  have hc : decodeConsumer (BitVec.ofNat 26 (encodeWord k.consumer)) = k.consumer := decodePort_of_fits hconsumer
  rw [Cycle.encode, decode_ofWords, hr, hp, hc]

/-! ## One operation in a cycle -/

/-- The cycle that presents one operation: the other two ports are idle. -/
theorem decode_onlyOperation (i : Instr) :
    (onlyOperation i).decode =
      match i.port with
      | .reset => ⟨i, .pidle, .cidle⟩
      | .producer => ⟨.norst, i, .cidle⟩
      | .consumer => ⟨.norst, .pidle, i⟩ := by
  have hword := decodePort_encodeWord i
  unfold onlyOperation Pins.onPort
  cases hport : i.port with
  | reset =>
    rw [hport] at hword
    exact (decode_ofWords _ _ _).trans (congrArg (fun r => Cycle.mk r .pidle .cidle) hword)
  | producer =>
    rw [hport] at hword
    exact (decode_ofWords _ _ _).trans (congrArg (fun p => Cycle.mk .norst p .cidle) hword)
  | consumer =>
    rw [hport] at hword
    exact (decode_ofWords _ _ _).trans (congrArg (fun c => Cycle.mk .norst .pidle c) hword)

/-- The host's word of an operation puts that operation alone on the pins of the coming cycle. -/
theorem withFetchWord_encodeWord (i : Instr) (s : State) :
    s.withFetchWord (8 * i.port.bytes) (encodeWord i) = { s with inputs := onlyOperation i :: s.inputs.tail } := by
  have hbytes : (8 * i.port.bytes + 7) / 8 = i.port.bytes := by omega
  have hdecode : decode (carrier i.port.bytes (encodeWord i)) = .ok i := decodeOfEncodeIsTheOperation i
  have htable : decodeTableWord (8 * i.port.bytes) (encodeWord i) = some i := by
    rw [decodeTableWord, hbytes, hdecode]
  rw [State.withFetchWord, htable]
  rfl

/-- A cycle that presents one operation performs it between the idle operations of the undriven ports. -/
theorem runCycle_onlyOperation (i : Instr) (s : State) :
    runCycle (onlyOperation i).decode s =
      match i.port with
      | .reset => if i = .rst then exec i s else andThen (exec i s) (fun a => andThen (exec .pidle a) (exec .cidle))
      | .producer => andThen (exec i s) (exec .cidle)
      | .consumer => andThen (exec .pidle s) (exec i) := by
  rw [decode_onlyOperation]
  cases i <;> rfl

/-- Settles O7: the word puts the operation alone on the pins, and the cycle performs it. -/
theorem stepRunsTheFetchedOperation : Obligations.StepRunsTheFetchedOperation := by
  unfold Obligations.StepRunsTheFetchedOperation
  intro i s
  rw [withFetchWord_encodeWord, step_of_inputs_cons rfl]
  exact runCycle_onlyOperation i { s with inputs := s.inputs.tail }

/-- Settles O8: undriven pins present NORST, PIDLE and CIDLE, and an empty list of cycles stays empty. -/
theorem nothingPresentedIsAnIdleCycle : Obligations.NothingPresentedIsAnIdleCycle := by
  unfold Obligations.NothingPresentedIsAnIdleCycle
  intro s hinputs
  have hpins : nextPins s = Pins.idle := by rw [nextPins, hinputs, List.headD_nil]
  have htake : takePins s = s := by
    rw [takePins, hinputs, List.tail_nil, ← hinputs]
  have hcycle : Pins.idle.decode = ⟨.norst, .pidle, .cidle⟩ := by decide
  rw [step, hpins, htake, hcycle]
  rfl

/-! ## The opcode table (30_encoding.md R58) -/

/-- The rows of a port share their mask, so a word has one masked value and selects at most one of them. -/
theorem eq_of_selects {row row' : OpcodeRow} {p : Port} {w : Nat} (hrow : row ∈ opcodeRows)
    (hrow' : row' ∈ opcodeRows) (h : row.selects p w = true) (h' : row'.selects p w = true) : row' = row := by
  have hmask : ∀ r ∈ opcodeRows, ∀ r' ∈ opcodeRows, r.port = r'.port → r.mask = r'.mask := by decide
  have hvalue : ∀ r ∈ opcodeRows, ∀ r' ∈ opcodeRows, r.port = r'.port → r.value = r'.value → r' = r := by
    decide
  simp only [OpcodeRow.selects, Bool.and_eq_true, decide_eq_true_eq] at h h'
  obtain ⟨hport, hval⟩ := h
  obtain ⟨hport', hval'⟩ := h'
  have hsame : row.port = row'.port := hport.trans hport'.symm
  refine hvalue row hrow row' hrow' hsame ?_
  rw [← hval, ← hval', hmask row hrow row' hrow' hsame]

/-- Every number below `2 ^ (m + n)` is a code of `m` bits above `n` bits. -/
theorem exists_append_toNat {m n w : Nat} (h : w < 2 ^ (m + n)) :
    ∃ (code : BitVec m) (u : BitVec n), (code ++ u).toNat = w := by
  refine ⟨(BitVec.ofNat (m + n) w).extractLsb' n m, (BitVec.ofNat (m + n) w).extractLsb' 0 n, ?_⟩
  rw [BitVec.extractLsb'_append_extractLsb'_eq_extractLsb' (Nat.zero_add n).symm, BitVec.extractLsb'_eq_self,
    BitVec.toNat_ofNat, Nat.mod_eq_of_lt h]

/-- Masking a word's code field leaves the code, at its place. -/
theorem append_toNat_and_mask {m n : Nat} (code : BitVec m) (u : BitVec n) :
    (code ++ u).toNat &&& (2 ^ m - 1) <<< n = code.toNat <<< n := by
  rw [BitVec.toNat_append]
  apply Nat.eq_of_testBit_eq
  intro i
  by_cases hi : i < n
  · have hbelow : ¬ n ≤ i := by omega
    simp [hbelow]
  · have hu : u.toNat.testBit i = false :=
      Nat.testBit_lt_two_pow (u.isLt.trans_le (Nat.pow_le_pow_right (by decide) (by omega)))
    have hge : n ≤ i := by omega
    by_cases hm : i - n < m
    · simp [hu, hm, hge]
    · have hcode : code.toNat.testBit (i - n) = false :=
        Nat.testBit_lt_two_pow (code.isLt.trans_le (Nat.pow_le_pow_right (by decide) (by omega)))
      simp [hu, hcode]

/-- The word selects the row, and the decoder answers that row's operation. -/
def RowOf (row : OpcodeRow) (p : Port) (w : Nat) : Prop :=
  row ∈ opcodeRows ∧ row.selects p w = true ∧ (decodePort p w).mnemonic = row.mnemonic

/-- A port's word is its row's when the row's value is its code, shifted to its place, and the mask covers the code. -/
theorem rowOf_append {m n : Nat} {row : OpcodeRow} {code : BitVec m} {u : BitVec n} (hmem : row ∈ opcodeRows)
    (hmask : row.mask = (2 ^ m - 1) <<< n) (hvalue : row.value = code.toNat <<< n)
    (hdecode : (decodePort row.port (code ++ u).toNat).mnemonic = row.mnemonic) :
    RowOf row row.port (code ++ u).toNat := by
  refine ⟨hmem, ?_, hdecode⟩
  simp [OpcodeRow.selects, hmask, hvalue, append_toNat_and_mask, -BitVec.toNat_append]

theorem exists_row_reset {w : Nat} (h : w < 2 ^ 1) : ∃ row, RowOf row .reset w := by
  have hbit : w = 0 ∨ w = 1 := by omega
  rcases hbit with rfl | rfl
  · exact ⟨⟨"NORST", .reset, 0x0, 0x1⟩, by decide, rfl, rfl⟩
  · exact ⟨⟨"RST", .reset, 0x1, 0x1⟩, by decide, rfl, rfl⟩

theorem exists_row_producer {w : Nat} (h : w < 2 ^ (1 + 8)) : ∃ row, RowOf row .producer w := by
  obtain ⟨code, u, rfl⟩ := exists_append_toNat h
  have hdecode : decodePort .producer (code ++ u).toNat = decodeProducer (code ++ u) := by
    rw [decodePort, BitVec.ofNat_toNat, BitVec.setWidth_eq]
  rcases BitVec.eq_zero_or_eq_one code with rfl | rfl
  · exact ⟨⟨"PIDLE", .producer, 0x000, 0x100⟩, rowOf_append (by decide) rfl rfl
      (by rw [hdecode, decodeProducer_pidle]; rfl)⟩
  · exact ⟨⟨"RXBYTE", .producer, 0x100, 0x100⟩, rowOf_append (by decide) rfl rfl
      (by rw [hdecode, decodeProducer_rxbyte]; rfl)⟩

theorem exists_row_consumer {w : Nat} (h : w < 2 ^ (2 + 24)) : ∃ row, RowOf row .consumer w := by
  obtain ⟨code, u, rfl⟩ := exists_append_toNat h
  have hdecode : decodePort .consumer (code ++ u).toNat = decodeConsumer (code ++ u) := by
    rw [decodePort, BitVec.ofNat_toNat, BitVec.setWidth_eq]
  have hcodes : ∀ c : BitVec 2, c = 0#2 ∨ c = 1#2 ∨ c = 2#2 ∨ c = 3#2 := by decide
  rcases hcodes code with rfl | rfl | rfl | rfl
  · exact ⟨⟨"CIDLE", .consumer, 0x0000000, 0x3000000⟩, rowOf_append (by decide) rfl rfl
      (by rw [hdecode, decodeConsumer_append]; rfl)⟩
  · exact ⟨⟨"POLL", .consumer, 0x1000000, 0x3000000⟩, rowOf_append (by decide) rfl rfl
      (by rw [hdecode, decodeConsumer_append]; rfl)⟩
  · exact ⟨⟨"RDCH", .consumer, 0x2000000, 0x3000000⟩, rowOf_append (by decide) rfl rfl
      (by rw [hdecode, decodeConsumer_append]; rfl)⟩
  · exact ⟨⟨"CRSV", .consumer, 0x3000000, 0x3000000⟩, rowOf_append (by decide) rfl rfl
      (by rw [hdecode, decodeConsumer_append]; rfl)⟩

/-- Settles O4: the code of the word names a row, and a port's rows exclude each other. -/
theorem everyPortWordSelectsOneRow : Obligations.EveryPortWordSelectsOneRow := by
  unfold Obligations.EveryPortWordSelectsOneRow
  intro p w hw
  have hrow : ∃ row, RowOf row p w := by
    cases p with
    | reset => exact exists_row_reset hw
    | producer => exact exists_row_producer hw
    | consumer => exact exists_row_consumer hw
  obtain ⟨row, hmem, hselects, hmnemonic⟩ := hrow
  exact ⟨row, hmem, hselects, hmnemonic, fun row' hmem' hselects' => eq_of_selects hmem hmem' hselects hselects'⟩

end Sys2Proof.Machine

/-! Noninterference: what the operations do not read (the start marker in Assembling, the ghost label, the output pins
and the levels to come), and cycles of one operation each. -/

namespace Sys2Proof.Machine

/-! ## The outcome with its next state mapped -/

@[simp] theorem mapNext_next (f : State → State) (s : State) : mapNext f (.next s) = .next (f s) := rfl
@[simp] theorem mapNext_fault (f : State → State) (r : Fault) : mapNext f (.fault r) = .fault r := rfl
@[simp] theorem mapNext_refused (f : State → State) (r : Refusal) : mapNext f (.refused r) = .refused r := rfl

theorem mapNext_id (o : Host.Outcome State Fault Refusal) : mapNext id o = o := by cases o <;> rfl

theorem mapNext_mapNext (f g : State → State) (o : Host.Outcome State Fault Refusal) :
    mapNext f (mapNext g o) = mapNext (f ∘ g) o := by cases o <;> rfl

/-! ## What RXBYTE does not read -/

/-- In Assembling, a change `f` of the state that leaves the cursor and the verdict alone comes out of RXBYTE as the
change `g`, if it does so in the state the byte is stored in. -/
theorem execRxbyte_mapNext_of_begun {f g : State → State} {c : Byte} {s : State} (hb : s.begun = true)
    (hbegun : (f s).begun = s.begun) (hpos : (f s).pos = s.pos) (hverdict : verdict c (f s) = verdict c s)
    (hstored : ∀ l, conclude l (storedState c (f s)) = g (conclude l (storedState c s))) :
    execRxbyte c (f s) = mapNext g (execRxbyte c s) := by
  have hfb : (f s).begun = true := hbegun.trans hb
  by_cases hp : s.pos.toNat < 70
  · have hfp : (f s).pos.toNat < 70 := by rwa [hpos]
    rw [execRxbyte_eq_conclude hb hp, execRxbyte_eq_conclude hfb hfp, hverdict, hstored]
    rfl
  · have hout : 70 ≤ s.pos.toNat := Nat.le_of_not_lt hp
    have hfout : 70 ≤ (f s).pos.toNat := by rwa [hpos]
    simp [execRxbyte, assemble, hb, hfb, storeByte_outside hout, storeByte_outside hfout, hpos]

/-- The change `f` of the state touches nothing that RXBYTE reads, and comes out of it as the change `g`. -/
structure Unread (f g : State → State) : Prop where
  begun : ∀ s, (f s).begun = s.begun
  pos : ∀ s, (f s).pos = s.pos
  cfg : ∀ s, (f s).cfg = s.cfg
  fresh : ∀ s, beginAttempt (f s) = f (beginAttempt s)
  verdict : ∀ c s, verdict c (f s) = verdict c s
  junk : ∀ s, reject .junk (f s) = g (reject .junk s)
  stored : ∀ l c s, conclude l (storedState c (f s)) = g (conclude l (storedState c s))

/-- What RXBYTE does not read it does not depend on. -/
theorem Unread.execRxbyte {f g : State → State} (h : Unread f g) (c : Byte) (s : State) :
    execRxbyte c (f s) = mapNext g (execRxbyte c s) := by
  cases hb : s.begun with
  | true => exact execRxbyte_mapNext_of_begun hb (h.begun s) (h.pos s) (h.verdict c s) fun l => h.stored l c s
  | false =>
    have hfb : (f s).begun = false := (h.begun s).trans hb
    by_cases hc : c = s.cfg.startMarker
    · have hfc : c = (f s).cfg.startMarker := by rw [h.cfg, hc]
      rw [execRxbyte_startMarker hb hc, execRxbyte_startMarker hfb hfc, h.fresh]
      exact execRxbyte_mapNext_of_begun (beginAttempt_begun s) (h.begun _) (h.pos _) (h.verdict c _)
        fun l => h.stored l c _
    · have hfc : c ≠ (f s).cfg.startMarker := by rwa [h.cfg]
      rw [execRxbyte_junk hb hc, execRxbyte_junk hfb hfc, h.junk]
      rfl

/-- RXBYTE writes the ghost label and never reads it. -/
theorem unread_withLabel (l : Option Label) : Unread (withLabel l) id where
  begun _ := rfl
  pos _ := rfl
  cfg _ := rfl
  fresh _ := rfl
  verdict _ _ := rfl
  junk _ := rfl
  stored l' _ _ := by cases l' <;> rfl

/-- The output pins and the levels to come, taken from another state. -/
def withPinsOf (d s : State) : State :=
  { s with
    cReady := d.cReady, cFsClear := d.cFsClear, cBaudToggle := d.cBaudToggle, cVal := d.cVal, inputs := d.inputs }

/-- RXBYTE neither reads nor writes the output pins and the levels to come. -/
theorem unread_withPinsOf (d : State) : Unread (withPinsOf d) (withPinsOf d) where
  begun _ := rfl
  pos _ := rfl
  cfg _ := rfl
  fresh _ := rfl
  verdict _ _ := rfl
  junk _ := rfl
  stored l _ _ := by cases l <;> rfl

/-- Settles O24: in Assembling the verdict does not read the start marker, and carrying it out keeps the marker. -/
theorem markerInsideAnAttemptIsData : Obligations.MarkerInsideAnAttemptIsData := by
  unfold Obligations.MarkerInsideAnAttemptIsData
  intro s c m hb
  exact execRxbyte_mapNext_of_begun (f := withStartMarker m) hb rfl rfl rfl fun l => by cases l <;> rfl

/-! ## The ghost label -/

theorem pollState_withLabel (l : Option Label) (s : State) : pollState (withLabel l s) = withLabel l (pollState s) := by
  have htoggle : toggleDue (withLabel l s) = toggleDue s := rfl
  unfold pollState
  rw [htoggle]
  split <;> rfl

/-- Settles O53: RXBYTE writes the label without reading it; the other operations carry it along or clear it. -/
theorem nothingDependsOnTheLabel : Obligations.NothingDependsOnTheLabel := by
  unfold Obligations.NothingDependsOnTheLabel
  intro i l s
  cases i with
  | rxbyte c => rw [exec_rxbyte, (unread_withLabel l).execRxbyte c s, mapNext_id, exec_rxbyte]
  | poll =>
    rw [exec_poll, exec_poll, pollState_withLabel]
    rfl
  | rst => rfl
  | norst => rfl
  | pidle => rfl
  | cidle => rfl
  | rdch r mid => rfl
  | crsv => rfl

/-! ## The block's own state -/

/-- The state of the block proper: without its trace and without what the environment will present. -/
def blockState (s : State) : State := { withoutTrace s with inputs := [] }

/-- Two states alike but for trace and levels to come are one of them with the other's trace and levels. -/
theorem eq_of_blockState_eq {s u : State} (h : blockState s = blockState u) :
    s = withLabel s.label (withPinsOf s u) := by
  cases s
  cases u
  simpa [blockState, withoutTrace, withLabel, idleOutputs, driveOutputs, withPinsOf] using h

/-- States alike but for their trace and levels to come, and with the same levels to come. -/
theorem withoutTrace_eq_of_blockState_eq {s u : State} (h : blockState s = blockState u) (hin : s.inputs = u.inputs) :
    withoutTrace s = withoutTrace u := by
  cases s
  cases u
  simp_all [blockState, withoutTrace, withLabel, idleOutputs, driveOutputs]

theorem pollState_withPinsOf (d s : State) : pollState (withPinsOf d s) = withPinsOf d (pollState s) := by
  have htoggle : toggleDue (withPinsOf d s) = toggleDue s := rfl
  unfold pollState
  rw [htoggle]
  split <;> rfl

theorem blockState_exec_withLabel (i : Instr) (l : Option Label) (s : State) :
    mapNext blockState (exec i (withLabel l s)) = mapNext blockState (exec i s) := by
  have h := congrArg (mapNext blockState) (nothingDependsOnTheLabel i l s)
  rwa [mapNext_mapNext, mapNext_mapNext] at h

theorem blockState_exec_withPinsOf (i : Instr) (d s : State) :
    mapNext blockState (exec i (withPinsOf d s)) = mapNext blockState (exec i s) := by
  cases i with
  | rxbyte c =>
    rw [exec_rxbyte, (unread_withPinsOf d).execRxbyte c s, mapNext_mapNext]
    rfl
  | poll =>
    rw [exec_poll, exec_poll, pollState_withPinsOf]
    rfl
  | rst => rfl
  | norst => rfl
  | pidle => rfl
  | cidle => rfl
  | rdch r mid => rfl
  | crsv => rfl

/-- What an operation does to the block's own state depends on that state alone. -/
theorem blockState_exec_congr {s u : State} (i : Instr) (h : blockState s = blockState u) :
    mapNext blockState (exec i s) = mapNext blockState (exec i u) := by
  rw [eq_of_blockState_eq h, blockState_exec_withLabel, blockState_exec_withPinsOf]

/-! ## Cycles of one operation -/

/-- The idle operations around the one presented touch the trace alone. -/
theorem blockState_runCycle_onlyOperation (i : Instr) (s : State) :
    mapNext blockState (runCycle (onlyOperation i).decode s) = mapNext blockState (exec i s) := by
  rw [runCycle_onlyOperation]
  cases hport : i.port with
  | consumer => exact blockState_exec_withLabel i none s
  | producer => cases exec i s <;> rfl
  | reset =>
    by_cases hi : i = .rst
    · rw [if_pos hi]
    · rw [if_neg hi]
      cases exec i s <;> rfl

/-- The step that takes an operation's cycle does that operation to the block's own state. -/
theorem blockState_step {i : Instr} {s u : State} {rest : List Pins} (hin : s.inputs = onlyOperation i :: rest)
    (h : blockState s = blockState u) : mapNext blockState (step s) = mapNext blockState (exec i u) := by
  have htake : blockState { s with inputs := rest } = blockState u := h
  rw [step_of_inputs_cons hin, blockState_runCycle_onlyOperation]
  exact blockState_exec_congr i htake

/-- The run of the cycles against the run of the operations, from states alike but for the trace, the cycles to come
standing before the levels that follow. -/
theorem runSteps_eq_execAll (ops : List Instr) {s u : State} (hin : s.inputs = ops.map onlyOperation ++ u.inputs)
    (h : blockState s = blockState u) :
    mapNext withoutTrace (runSteps ops.length s) = mapNext withoutTrace (execAll ops u) := by
  induction ops generalizing s u with
  | nil => exact congrArg Host.Outcome.next (withoutTrace_eq_of_blockState_eq h hin)
  | cons i ops ih =>
    have hone := blockState_step hin h
    rw [List.length_cons, runSteps_succ, execAll_cons]
    cases hs : step s with
    | next s1 =>
      cases hu : exec i u with
      | next u1 =>
        rw [hs, hu] at hone
        obtain ⟨-, hin1⟩ := stepKeepsTheParameters s s1 hs
        obtain ⟨-, hin2⟩ := exec_keeps_cfg_inputs hu
        refine ih ?_ (by simpa using hone)
        rw [hin1, hin, hin2]
        rfl
      | fault r => simp [hs, hu] at hone
      | refused r => simp [hs, hu] at hone
    | fault r =>
      cases hu : exec i u <;> simp_all
    | refused r =>
      cases hu : exec i u <;> simp_all

/-- Settles O12: the two runs start from states that differ in the levels to come alone. -/
theorem cyclesRealiseTheOrderOfOperations : Obligations.CyclesRealiseTheOrderOfOperations := by
  unfold Obligations.CyclesRealiseTheOrderOfOperations
  intro ops rest s hin
  exact runSteps_eq_execAll ops (u := { s with inputs := rest }) hin rfl

end Sys2Proof.Machine

/-! The algebra of the checksum (40_checksum.md R72, R74), the fold over the buffer, and buffers that read alike. -/

namespace Sys2Proof.Machine

/-! ## The update is linear over XOR (40_checksum.md R72) -/

theorem crcMix_xor (d e : Byte) : crcMix (d ^^^ e) = crcMix d ^^^ crcMix e := by
  simp only [crcMix, BitVec.shiftLeft_xor_distrib]
  ac_rfl

/-- Each of the update's three terms is linear in the mixed byte and the register's high byte. -/
theorem crcUpd_xor (a b : Half) (x y : Byte) : crcUpd (a ^^^ b) (x ^^^ y) = crcUpd a x ^^^ crcUpd b y := by
  have hmix : crcMix (x ^^^ y ^^^ (a ^^^ b).extractLsb' 0 8) =
      crcMix (x ^^^ a.extractLsb' 0 8) ^^^ crcMix (y ^^^ b.extractLsb' 0 8) := by
    rw [← crcMix_xor, BitVec.extractLsb'_xor]
    congr 1
    ac_rfl
  rw [crcUpd_eq_crcMix, hmix, crcUpd_eq_crcMix, crcUpd_eq_crcMix]
  simp only [BitVec.extractLsb'_xor, BitVec.setWidth_xor, BitVec.shiftLeft_xor_distrib, ← BitVec.xor_append]
  ac_rfl

theorem crcUpd_zero : crcUpd 0 0 = 0 := by decide

/-- Two updates agree only on registers and bytes whose differences update to zero. -/
theorem crcUpd_eq_iff (a b : Half) (x y : Byte) : crcUpd a x = crcUpd b y ↔ crcUpd (a ^^^ b) (x ^^^ y) = 0 := by
  rw [crcUpd_xor]
  exact BitVec.xor_eq_zero_iff.symm

/-- A register whose two bytes are zero is zero. -/
theorem eq_zero_of_bytes {a : Half} (hhigh : a.extractLsb' 8 8 = 0) (hlow : a.extractLsb' 0 8 = 0) : a = 0 := by
  have hsplit : a.extractLsb' 8 8 ++ a.extractLsb' 0 8 = a :=
    (BitVec.extractLsb'_append_extractLsb'_eq_extractLsb' rfl).trans BitVec.extractLsb'_eq_self
  rw [← hsplit, hhigh, hlow]
  rfl

/-- For each byte the update loses nothing of the register. -/
theorem crcUpd_injective (data : Byte) : Function.Injective (fun crc : Half => crcUpd crc data) := by
  intro a b h
  have hzero := (crcUpd_eq_iff a b data data).1 h
  rw [BitVec.xor_self, crcUpd_eq_zero_iff] at hzero
  obtain ⟨hhigh, hlow⟩ := hzero
  exact BitVec.xor_eq_zero_iff.1 (eq_zero_of_bytes hhigh hlow.symm)

/-- Settles O33: an injective map of the finitely many 16-bit values is a bijection. -/
theorem checksumUpdateIsLinearAndBijective : Obligations.ChecksumUpdateIsLinearAndBijective := by
  unfold Obligations.ChecksumUpdateIsLinearAndBijective
  exact ⟨crcUpd_xor, crcUpd_zero, fun data => Finite.injective_iff_bijective.1 (crcUpd_injective data)⟩

/-! ## The fold (40_checksum.md R74) -/

theorem crcFold_replicate_zero (n : Nat) : crcFold (List.replicate n 0x00) = 0x0000 := by
  induction n with
  | zero => rfl
  | succ n ih => rw [List.replicate_succ', crcFold_append, ih]; exact crcUpd_zero

/-- Settles O35: zero bytes leave the empty register empty. -/
theorem checksumOfZeroBytes : Obligations.ChecksumOfZeroBytes := by
  unfold Obligations.ChecksumOfZeroBytes
  refine ⟨crcFold_replicate_zero, fun n bytes => ?_, fun b => rfl⟩
  rw [crcFold_append, crcFold_replicate_zero]
  rfl

/-- Going on with the same bytes, a fold loses nothing of the register it starts from. -/
theorem foldl_crcUpd_injective (bytes : List Byte) :
    Function.Injective (fun crc : Half => bytes.foldl crcUpd crc) := by
  induction bytes with
  | nil => exact fun _ _ h => h
  | cons b bytes ih => exact fun x y h => crcUpd_injective b (ih h)

/-- From the same register, different bytes give different updates. -/
theorem crcUpd_ne_of_byte_ne {crc : Half} {x y : Byte} (h : x ≠ y) : crcUpd crc x ≠ crcUpd crc y := by
  intro heq
  rw [crcUpd_eq_iff, BitVec.xor_self, crcUpd_eq_zero_iff] at heq
  exact h (BitVec.xor_eq_zero_iff.1 heq.2)

/-- Sequences that differ in one byte have different folds. -/
theorem crcFold_ne_of_byte_ne (xs ys : List Byte) {x y : Byte} (h : x ≠ y) :
    crcFold (xs ++ x :: ys) ≠ crcFold (xs ++ y :: ys) := by
  rw [crcFold_append, crcFold_append]
  exact fun heq => crcUpd_ne_of_byte_ne h (foldl_crcUpd_injective ys heq)

/-- A byte with one of its bits flipped is another byte. -/
theorem ne_xor_one_shiftLeft (b : Byte) {k : Nat} (hk : k < 8) : b ≠ b ^^^ (1 : Byte) <<< k := by
  have hbit : ∀ k < 8, (1 : Byte) <<< k ≠ 0 := by decide
  intro heq
  exact hbit k hk ((BitVec.xor_right_inj b).1 (heq.symm.trans BitVec.xor_zero.symm))

/-- Settles O36: the flipped sequence differs from the frame in one byte, so its fold is not the frame's. -/
theorem flippedBitIsDetected : Obligations.FlippedBitIsDetected := by
  unfold Obligations.FlippedBitIsDetected
  intro frame n k hfold hn hk
  have hframe : frame.take n ++ frame[n] :: frame.drop (n + 1) = frame := by simp
  have hflip : flipBit frame n k = frame.take n ++ (frame[n] ^^^ (1 : Byte) <<< k) :: frame.drop (n + 1) := by
    rw [flipBit, List.modify_eq_take_cons_drop hn]
  have hne := crcFold_ne_of_byte_ne (frame.take n) (frame.drop (n + 1)) (ne_xor_one_shiftLeft frame[n] hk)
  rw [hframe, hfold, ← hflip] at hne
  exact hne.symm

/-- No byte brings a fold to zero while the register's high byte is not zero (40_checksum.md R70). -/
theorem crcFold_append_singleton_ne_zero {bytes : List Byte} (h : (crcFold bytes).extractLsb' 8 8 ≠ 0) (b : Byte) :
    crcFold (bytes ++ [b]) ≠ 0x0000 := by
  rw [crcFold_append]
  exact fun hzero => h ((crcUpd_eq_zero_iff _ b).1 hzero).1

/-! ## The fold over the buffer (10_state.md R24) -/

/-- The bytes below the position written, and the byte written there. -/
theorem firstBytes_write_succ {m : Memory} (hwf : Memory.wf m = true) (n : Nat) (c : Byte) :
    Memory.firstBytes (Memory.write m n c) (n + 1) = Memory.firstBytes m n ++ [c] := by
  rw [Memory.firstBytes_succ, Memory.firstBytes_write m c le_rfl, Memory.read_write_same hwf]

/-- Settles O37: the store appends its byte to the bytes the fold runs over. -/
theorem runningChecksumIsTheFold : Obligations.RunningChecksumIsTheFold := by
  unfold Obligations.RunningChecksumIsTheFold
  intro m n c hwf _
  rw [Memory.fold, firstBytes_write_succ hwf, crcFold_append]
  rfl

/-! ## The canonical form determines the buffer -/

/-- A listed position reads as its entry, which is not 0x00. -/
theorem read_head_ne_zero {lo a : Nat} {v : Byte} {m : Memory} (h : Memory.wfFrom lo ((a, v) :: m) = true) :
    a < 70 ∧ Memory.read ((a, v) :: m) a ≠ 0x00 := by
  obtain ⟨-, ha, hv, -⟩ := (Memory.wfFrom_cons_iff _ _ _ _).1 h
  exact ⟨ha, by rwa [Memory.read_cons, if_pos rfl]⟩

/-- The first listed position is the first that does not read as 0x00. -/
theorem head_le_of_read_ne_zero {lo a b : Nat} {v : Byte} {m : Memory} (h : Memory.wfFrom lo ((a, v) :: m) = true)
    (hread : Memory.read ((a, v) :: m) b ≠ 0x00) : a ≤ b := by
  by_contra hlt
  obtain ⟨-, ha, hv, hm⟩ := (Memory.wfFrom_cons_iff _ _ _ _).1 h
  exact hread (Memory.read_below ((Memory.wfFrom_cons_iff a a v m).2 ⟨le_rfl, ha, hv, hm⟩) (by omega))

/-- Buffers in canonical form from two positions up that read alike are equal. -/
theorem eq_of_read_eq_from {lo lo' : Nat} {m m' : Memory} (hwf : Memory.wfFrom lo m = true)
    (hwf' : Memory.wfFrom lo' m' = true) (hread : ∀ a < 70, Memory.read m a = Memory.read m' a) : m = m' := by
  induction m generalizing lo lo' m' with
  | nil =>
    cases m' with
    | nil => rfl
    | cons p m' =>
      obtain ⟨ha, hne⟩ := read_head_ne_zero hwf'
      exact absurd (hread p.1 ha).symm hne
  | cons p m ih =>
    obtain ⟨a, v⟩ := p
    obtain ⟨ha, hne⟩ := read_head_ne_zero hwf
    cases m' with
    | nil => exact absurd (hread a ha) hne
    | cons p' m' =>
      obtain ⟨b, w⟩ := p'
      obtain ⟨hb, hne'⟩ := read_head_ne_zero hwf'
      have hab : a = b := le_antisymm (head_le_of_read_ne_zero hwf (hread b hb ▸ hne'))
        (head_le_of_read_ne_zero hwf' (hread a ha ▸ hne))
      subst hab
      have hvw : v = w := by simpa [Memory.read_cons] using hread a ha
      obtain ⟨-, -, -, hm⟩ := (Memory.wfFrom_cons_iff _ _ _ _).1 hwf
      obtain ⟨-, -, -, hm'⟩ := (Memory.wfFrom_cons_iff _ _ _ _).1 hwf'
      have htail : m = m' := ih hm hm' fun i hi => by
        by_cases hia : i = a
        · rw [hia, Memory.read_below hm (Nat.lt_succ_self a), Memory.read_below hm' (Nat.lt_succ_self a)]
        · simpa [Memory.read_cons, hia] using hread i hi
      rw [hvw, htail]

/-- Settles O38: the entries are the positions that do not read as 0x00, in rising order. -/
theorem buffersThatReadAlikeAreEqual : Obligations.BuffersThatReadAlikeAreEqual := by
  unfold Obligations.BuffersThatReadAlikeAreEqual
  exact fun m m' hwf hwf' => eq_of_read_eq_from hwf hwf'

end Sys2Proof.Machine

/-! Where RXBYTE stops, where DONE, JUNK and BAUDOK change, and what POLL and RDCH answer in consequence. -/

namespace Sys2Proof.Machine

/-! ## Small cases of the operations -/

/-- Settles O14: the second RST writes what the first one wrote. -/
theorem rstTwiceIsRstOnce : Obligations.RstTwiceIsRstOnce := by
  unfold Obligations.RstTwiceIsRstOnce
  exact fun s => rfl

/-- Settles O15: NORST, PIDLE and RST evaluated. -/
theorem norstAndPidleDoNothing : Obligations.NorstAndPidleDoNothing := by
  unfold Obligations.NorstAndPidleDoNothing
  exact fun s => ⟨rfl, rfl, _, rfl, rfl⟩

/-- Settles O21: the byte passes its checks and is not the frame's last one. -/
theorem byteBeforeTheLastIsStored : Obligations.ByteBeforeTheLastIsStored := by
  unfold Obligations.ByteBeforeTheLastIsStored
  intro s c hb hp hlen htype hmore
  exact execRxbyte_stored hb hp hlen htype hmore.ne

/-! ## Where an operation stops -/

/-- RXBYTE stops exactly where it would store outside the buffer. -/
theorem execRxbyte_fault_iff {c : Byte} {s : State} {f : Fault} :
    execRxbyte c s = .fault f ↔ s.begun = true ∧ 70 ≤ s.pos.toNat ∧ f = .bufferOverrun s.pos.toNat := by
  constructor
  · intro h
    rcases execRxbyte_cases c s with ⟨-, -, e⟩ | ⟨-, -, e⟩ | ⟨hb, hp, e⟩ <;> rw [h] at e
    · cases e
    · cases e
    · cases e
      exact ⟨hb, hp, rfl⟩
  · rintro ⟨hb, hp, rfl⟩
    simp [execRxbyte, assemble, hb, storeByte_outside hp]

theorem execRxbyte_ne_refused (c : Byte) (s : State) (r : Refusal) : execRxbyte c s ≠ .refused r := by
  intro h
  rcases execRxbyte_cases c s with ⟨-, -, e⟩ | ⟨-, -, e⟩ | ⟨-, -, e⟩ <;> rw [h] at e <;> cases e

/-- Settles O25: every operation but RXBYTE goes on from every state. -/
theorem onlyAStoreOutsideTheBufferStops : Obligations.OnlyAStoreOutsideTheBufferStops := by
  unfold Obligations.OnlyAStoreOutsideTheBufferStops
  intro i s
  by_cases hi : ∃ c, i = .rxbyte c
  · obtain ⟨c, rfl⟩ := hi
    refine ⟨fun f => ?_, execRxbyte_ne_refused c s⟩
    rw [exec_rxbyte, execRxbyte_fault_iff]
    simp
  · obtain ⟨t, hexec⟩ := exec_completes (not_exists.1 hi) s
    simp [hexec, hi]

/-! ## DONE and JUNK -/

/-- DONE after a byte was stored: set by an acceptance, else as the attempt had it. -/
theorem conclude_done (l : Label) (s : State) : (conclude l s).done = true ↔ l = .accept ∨ s.done = true := by
  cases l <;> simp [conclude]

/-- RXBYTE sets DONE with the acceptance of a frame alone (10_state.md R17). -/
theorem execRxbyte_sets_done {c : Byte} {s t : State} (h : execRxbyte c s = .next t) (hs : s.done = false)
    (ht : t.done = true) : t.label = some .accept ∧ t.baudok = true ∧ Memory.fold t.buf t.len.toNat = 0x0000 := by
  rcases execRxbyte_next_cases h with ⟨-, -, rfl⟩ | ⟨-, -, rfl⟩
  · rw [reject_done, hs] at ht
    cases ht
  · have hattempt : (attemptState s).done = false := by
      unfold attemptState
      split
      · exact hs
      · exact beginAttempt_done s
    have haccept : verdict c (attemptState s) = .accept := by
      simpa [hattempt, storedState] using (conclude_done _ _).1 ht
    rw [haccept]
    exact ⟨rfl, rfl, (passes_of_verdict_accept haccept).2.2⟩

/-- RXBYTE clears DONE with the start of an attempt alone (10_state.md R17). -/
theorem execRxbyte_clears_done {c : Byte} {s t : State} (h : execRxbyte c s = .next t) (hs : s.done = true)
    (ht : t.done = false) : c = s.cfg.startMarker ∧ s.begun = false := by
  rcases execRxbyte_next_cases h with ⟨-, -, rfl⟩ | ⟨hattempt, -, rfl⟩
  · rw [reject_done, hs] at ht
    cases ht
  · cases hb : s.begun with
    | false => exact ⟨hattempt.resolve_left (by simp [hb]), rfl⟩
    | true =>
      have hkept := (conclude_done (verdict c (attemptState s)) (storedState c (attemptState s))).2
        (.inr (by rw [attemptState_of_begun hb]; exact hs))
      rw [ht] at hkept
      cases hkept

/-- Settles O49: RXBYTE by the two lemmas above; the other operations set DONE nowhere, and RST and POLL clear it. -/
theorem doneIsSetOnlyByAnAcceptedFrame : Obligations.DoneIsSetOnlyByAnAcceptedFrame := by
  unfold Obligations.DoneIsSetOnlyByAnAcceptedFrame
  intro i s t h
  cases i with
  | rxbyte c =>
    refine ⟨fun hs ht => ⟨⟨c, rfl⟩, execRxbyte_sets_done h hs ht⟩, fun hs ht => ?_⟩
    obtain ⟨hc, hb⟩ := execRxbyte_clears_done h hs ht
    exact .inr (.inr ⟨congrArg Instr.rxbyte hc, hb⟩)
  | rst => cases h; simp
  | poll => cases h; simp
  | norst => cases h; simp_all
  | pidle => cases h; simp_all
  | cidle => cases h; simp_all
  | rdch r mid => cases h; simp_all
  | crsv => cases h; simp_all

/-- RXBYTE changes JUNK for a junk byte and for a checksum failure alone (60_exceptions.md R112). -/
theorem execRxbyte_changes_junk {c : Byte} {s t : State} (h : execRxbyte c s = .next t) (hne : t.junk ≠ s.junk) :
    (s.begun = false ∧ c ≠ s.cfg.startMarker ∧ t.junk.toNat = min (s.junk.toNat + 1) 65535) ∨
    (t.label = some (.rejected .checksum) ∧ t.junk.toNat = min (s.junk.toNat + t.len.toNat) 65535) := by
  rcases execRxbyte_next_cases h with ⟨hb, hc, rfl⟩ | ⟨-, -, rfl⟩
  · exact .inl ⟨hb, hc, rejectedJunk_junk s⟩
  · have hstored : (storedState c (attemptState s)).junk = s.junk := attemptState_junk s
    cases hv : verdict c (attemptState s) with
    | stored => rw [hv] at hne; exact absurd hstored hne
    | accept => rw [hv] at hne; exact absurd hstored hne
    | rejected e =>
      rw [hv] at hne
      cases e with
      | junk => exact absurd hv (verdict_ne_junk c _)
      | checksum => exact .inr ⟨rfl, by rw [← hstored]; exact rejectedJunk_checksum _⟩
      | oversize => exact absurd hstored hne
      | short => exact absurd hstored hne
      | packetType => exact absurd hstored hne

/-- Settles O50: RXBYTE by its two counting rejects, POLL by its toggle, RST; no other operation writes JUNK. -/
theorem junkChangesInThreePlacesAndReset : Obligations.JunkChangesInThreePlacesAndReset := by
  unfold Obligations.JunkChangesInThreePlacesAndReset
  intro i s t h hne
  cases i with
  | rst => cases h; exact .inl ⟨rfl, rfl⟩
  | rxbyte c =>
    rcases execRxbyte_changes_junk h hne with ⟨hb, hc, hjunk⟩ | ⟨hlabel, hjunk⟩
    · exact .inr (.inl ⟨c, rfl, hb, hc, hjunk⟩)
    · exact .inr (.inr (.inl ⟨c, rfl, hlabel, hjunk⟩))
  | poll =>
    cases h
    rw [driveOutputs_junk, pollState_junk] at hne
    have htoggle : toggleDue s = true := by
      by_contra hquiet
      exact hne (if_neg hquiet)
    obtain ⟨hbaudok, hcount⟩ := (toggleDue_iff s).1 htoggle
    refine .inr (.inr (.inr ⟨rfl, hbaudok, hcount, ?_⟩))
    rw [driveOutputs_junk, pollState_junk, if_pos htoggle]
  | norst => cases h; exact absurd rfl hne
  | pidle => cases h; exact absurd rfl hne
  | cidle => cases h; exact absurd rfl hne
  | rdch r mid => cases h; exact absurd rfl hne
  | crsv => cases h; exact absurd rfl hne

/-! ## BAUDOK and the toggle -/

/-- Without RST a run leaves a set BAUDOK set (70_reset_and_hazards.md R130). -/
theorem execAll_keeps_baudok {ops : List Instr} {s t : State} (hrst : Instr.rst ∉ ops) (h : execAll ops s = .next t)
    (hs : s.baudok = true) : t.baudok = true := by
  induction ops generalizing s with
  | nil => cases h; exact hs
  | cons i ops ih =>
    obtain ⟨hi, hops⟩ := not_or.1 (mt List.mem_cons.2 hrst)
    obtain ⟨u, hexec, hrest⟩ := andThen_eq_next h
    exact ih hops hrest (exec_keeps_baudok (Ne.symm hi) hexec hs)

/-- Settles O51: BAUDOK stays set, and it bars the toggle. -/
theorem noToggleAfterAnAcceptedFrame : Obligations.NoToggleAfterAnAcceptedFrame := by
  unfold Obligations.NoToggleAfterAnAcceptedFrame
  intro ops s t hs hrst h
  have ht := execAll_keeps_baudok hrst h hs
  exact ⟨ht, _, exec_poll t, by simp [toggleDue, ht]⟩

/-- Bytes received in Seeking, none the start marker, are counted, and nothing else changes but the label. -/
theorem receive_junk (bytes : List Byte) {s : State} (hb : s.begun = false)
    (hjunk : ∀ c ∈ bytes, c ≠ s.cfg.startMarker) :
    ∃ t, receive bytes s = .next t ∧ t = { s with junk := t.junk, label := t.label } ∧
      t.junk.toNat = min (s.junk.toNat + bytes.length) 65535 := by
  induction bytes generalizing s with
  | nil =>
    refine ⟨s, rfl, rfl, ?_⟩
    have := s.junk.isLt
    simp only [List.length_nil]
    omega
  | cons c bytes ih =>
    have hc : c ≠ s.cfg.startMarker := hjunk c (by simp)
    obtain ⟨t, hrun, hframe, hcount⟩ :=
      ih (s := reject .junk s) rfl fun d hd => hjunk d (List.mem_cons_of_mem c hd)
    have hexec : exec (.rxbyte c) s = .next (reject .junk s) := execRxbyte_junk hb hc
    refine ⟨t, ?_, ?_, ?_⟩
    · rw [receive, List.map_cons, execAll_cons, hexec, andThen_next]
      exact hrun
    · rw [hframe, reject_begun, ← hb]
      rfl
    · rw [hcount, reject_junk, rejectedJunk_junk, List.length_cons]
      omega

/-- Settles O52: the bytes are counted without wrapping up to the threshold, and POLL compares the count with it. -/
theorem junkBytesBringTheToggle : Obligations.JunkBytesBringTheToggle := by
  unfold Obligations.JunkBytesBringTheToggle
  intro s bytes hb hbaudok hzero hjunk
  obtain ⟨u, hrun, hframe, hcount⟩ := receive_junk bytes hb hjunk
  have hu : u.baudok = false := by rw [hframe]; exact hbaudok
  have hcount' : u.junk.toNat = min bytes.length 65535 := by simpa [hzero] using hcount
  have htoggle : toggleDue u = decide (1000 < min bytes.length 65535) := by
    simp [toggleDue, hu, Config.junkThreshold, hcount']
  refine ⟨driveOutputs u.done u.done (toggleDue u) 0 (pollState u), ?_, fun hmany => ?_, fun hfew => ?_⟩
  · rw [execAll_append]
    change andThen (receive bytes s) (execAll [.poll]) = _
    rw [hrun]
    rfl
  · have hdue : toggleDue u = true := by rw [htoggle]; exact decide_eq_true (by omega)
    simp [pollState_junk, hdue]
  · have hdue : toggleDue u = false := by rw [htoggle]; exact decide_eq_false (by omega)
    refine ⟨hdue, ?_⟩
    rw [driveOutputs_junk, pollState_junk, hdue, if_neg Bool.false_ne_true]
    omega

/-! ## POLL and RDCH -/

/-- Settles O42: the invariants say it of the state before the POLL, which writes DONE and the outputs alone. -/
theorem readyMeansAValidFrame : Obligations.ReadyMeansAValidFrame := by
  unfold Obligations.ReadyMeansAValidFrame
  intro s hinv hd
  obtain ⟨-, hb, -, hthree, hcap, hfold⟩ := hinv.doneFrame hd
  obtain ⟨hmarker, htype⟩ := hinv.doneMarker hd
  refine ⟨_, exec_poll s, hd, ?_⟩
  simpa [pollState_begun, hinv.toggleDue_of_done hd, hb] using ⟨hthree, hcap, hfold, hmarker, htype⟩

/-- After a POLL no toggle is due: it cleared JUNK, or none was due before it. -/
theorem toggleDue_pollState (s : State) : toggleDue (pollState s) = false := by
  unfold pollState
  split
  · simp [toggleDue]
  · next hquiet => exact Bool.eq_false_iff.2 hquiet

/-- Settles O41: the first POLL leaves DONE clear and no toggle due. -/
theorem secondPollReportsNothing : Obligations.SecondPollReportsNothing := by
  unfold Obligations.SecondPollReportsNothing
  intro s
  have hdone : (pollState s).done = false := pollState_done s
  exact ⟨_, rfl, hdone, hdone, toggleDue_pollState s⟩

/-- A start marker in Seeking is stored, with DONE clear. -/
theorem exec_startMarker {s : State} (hb : s.begun = false) :
    exec (.rxbyte s.cfg.startMarker) s =
      .next (withLabel (some .stored) (storedState s.cfg.startMarker (beginAttempt s))) := by
  rw [exec_rxbyte, execRxbyte_startMarker hb rfl]
  exact execRxbyte_stored (beginAttempt_begun s) (by simp) (by simp) (by simp) (by simp [lengthAfter_of_pos_ne_two])

/-- Settles O43: the marker's attempt starts with DONE clear, which is what POLL reports. -/
theorem startMarkerLosesAnUnpolledFrame : Obligations.StartMarkerLosesAnUnpolledFrame := by
  unfold Obligations.StartMarkerLosesAnUnpolledFrame
  intro s hb
  rw [execAll_cons, exec_startMarker hb, andThen_next]
  exact ⟨_, rfl, rfl, rfl⟩

/-- Settles O46: the neutral value does not read the buffer, and the channel's ticks are its two bytes. -/
theorem rdchDependsOnTwoBytes : Obligations.RdchDependsOnTwoBytes := by
  unfold Obligations.RdchDependsOnTwoBytes
  intro s s' r mid hbaudok hlow hhigh
  refine ⟨_, _, exec_rdch r mid s, exec_rdch r mid s', ?_⟩
  rw [driveOutputs_cVal, driveOutputs_cVal]
  by_cases hneutral : 16 ≤ r.toNat ∨ s.baudok = false
  · rw [channelValue_neutral hneutral, channelValue_neutral (hbaudok ▸ hneutral)]
  · obtain ⟨hr, hset⟩ := not_or.1 hneutral
    have hr' : r.toNat < 16 := Nat.lt_of_not_le hr
    have hset' : s.baudok = true := by simpa using hset
    have hticks : channelTicks s r = channelTicks s' r := by
      rw [← BitVec.toNat_inj, channelTicks_toNat hr', channelTicks_toNat hr', hlow, hhigh]
    rw [channelValue_channel hr' hset', channelValue_channel hr' (hbaudok ▸ hset'), hticks]

end Sys2Proof.Machine

/-! Byte sequences received: an attempt's length is bounded, a well-formed frame is accepted, a frame of another type is
dropped, and frames below the protocol's minimum (41_frame_assembler.md R88, R89, R93; 95_test_vectors.md S2, S6). -/

namespace Sys2Proof.Machine

/-! ## Receiving bytes -/

theorem receive_cons (c : Byte) (bytes : List Byte) (s : State) :
    receive (c :: bytes) s = andThen (exec (.rxbyte c) s) (receive bytes) := rfl

theorem receive_append (xs ys : List Byte) (s : State) :
    receive (xs ++ ys) s = andThen (receive xs s) (receive ys) := by
  rw [receive, List.map_append, execAll_append]
  rfl

/-- One more byte after a sequence. -/
theorem receive_append_singleton {bytes : List Byte} {s u : State} (h : receive bytes s = .next u) (c : Byte) :
    receive (bytes ++ [c]) s = exec (.rxbyte c) u := by
  rw [receive_append, h, andThen_next, receive_cons]
  cases exec (.rxbyte c) u <;> rfl

/-! ## The bound on an attempt (41_frame_assembler.md R89) -/

/-- Settles O27, by induction on the bytes: each moves the cursor, which stays below LEN, and LEN is at most 70. -/
theorem attemptEndsWithinTheCapacity : Obligations.AttemptEndsWithinTheCapacity := by
  unfold Obligations.AttemptEndsWithinTheCapacity
  intro s bytes hinv hb hlength
  rw [← hlength]
  obtain ⟨-, hlt, hcap⟩ := hinv.assembling hb
  induction bytes generalizing s with
  | nil =>
    rw [List.length_nil] at hlength
    omega
  | cons c bytes ih =>
    rw [List.length_cons] at hlength
    obtain ⟨t, hexec, -, hpos, -⟩ := execRxbyte_assembling_stores c hb (by omega)
    have ht : StateInv t := exec_keeps_stateInv (i := .rxbyte c) hinv hexec
    cases htb : t.begun with
    | false =>
      have hrun : receive [c] s = .next t := (receive_append_singleton (bytes := []) rfl c).trans hexec
      exact ⟨1, t, le_rfl, by simp, hrun, htb, ht⟩
    | true =>
      have hpos' : t.pos.toNat = s.pos.toNat + 1 := by rw [hpos, pos_succ_toNat (by omega)]
      obtain ⟨-, htlt, htcap⟩ := ht.assembling htb
      obtain ⟨n, u, hn, hle, hrun, hu⟩ := ih t ht htb (by omega) htlt htcap
      refine ⟨n + 1, u, by omega, by simpa using hle, ?_, hu⟩
      rw [List.take_succ_cons, receive_cons, exec_rxbyte, hexec, andThen_next, hrun]

/-! ## A frame in progress -/

/-- The bytes, received in `s`, were stored as the beginning of a frame of the declared length, and left `u`. -/
structure Received (s : State) (bytes : List Byte) (len : Byte) (u : State) : Prop where
  run : receive bytes s = .next u
  begun : u.begun = true
  notDone : u.done = false
  bufWf : Memory.wf u.buf = true
  pos : u.pos.toNat = bytes.length
  lenBefore : bytes.length ≤ 2 → u.len = 7
  lenAfter : 3 ≤ bytes.length → u.len = len
  cfg : u.cfg = s.cfg
  baudok : u.baudok = s.baudok
  junk : u.junk = s.junk
  stored : Memory.firstBytes u.buf bytes.length = bytes
  beyond : ∀ a, bytes.length ≤ a → Memory.read u.buf a = Memory.read s.buf a

/-- A start marker in Seeking is a frame's first byte (41_frame_assembler.md R78). -/
theorem received_startMarker {s : State} (hwf : Memory.wf s.buf = true) (hb : s.begun = false) (len : Byte) :
    ∃ u, Received s [s.cfg.startMarker] len u := by
  refine ⟨withLabel (some .stored) (storedState s.cfg.startMarker (beginAttempt s)), ?_⟩
  constructor
  case run => rw [receive_cons, exec_startMarker hb]; rfl
  case bufWf => exact Memory.wf_write hwf (by simp) _
  case lenAfter => simp
  case stored => exact firstBytes_write_succ hwf 0 s.cfg.startMarker
  case beyond => exact fun a ha => Memory.read_write_other s.buf _ (Nat.ne_of_gt ha)
  all_goals intros; rfl

/-- From the length byte on, the length in force is the declared one (41_frame_assembler.md R80). -/
theorem Received.lengthAfter_of_two_le {s u : State} {bytes : List Byte} {len c : Byte} (h : Received s bytes len u)
    (hlen : bytes.length = 2 → c = len) (htwo : 2 ≤ bytes.length) : lengthAfter c u = len := by
  have hpos := h.pos
  by_cases h2 : u.pos.toNat = 2
  · rw [lengthAfter_of_pos_two h2, hlen (by omega)]
  · rw [lengthAfter_of_pos_ne_two h2, h.lenAfter (by omega)]

/-- Before the length byte the length in force is the one an attempt starts with. -/
theorem Received.lengthAfter_of_lt_two {s u : State} {bytes : List Byte} {len : Byte} (h : Received s bytes len u)
    (c : Byte) (htwo : bytes.length < 2) : lengthAfter c u = 7 := by
  have hpos := h.pos
  rw [lengthAfter_of_pos_ne_two (by omega), h.lenBefore (by omega)]

/-- A byte that its position allows, and that is not the frame's last one, is stored (41_frame_assembler.md R90). -/
theorem Received.append {s u : State} {bytes : List Byte} {len c : Byte} (h : Received s bytes len u)
    (hmore : bytes.length + 1 < len.toNat) (hcap : len.toNat ≤ 70) (hlen : bytes.length = 2 → c = len)
    (htype : bytes.length = 4 → c = s.cfg.rcType) : ∃ v, Received s (bytes ++ [c]) len v := by
  have hpos := h.pos
  have hp : u.pos.toNat < 70 := by omega
  have hincomplete : u.pos.toNat + 1 ≠ (lengthAfter c u).toNat := by
    by_cases h2 : 2 ≤ bytes.length
    · rw [h.lengthAfter_of_two_le hlen h2]
      omega
    · rw [h.lengthAfter_of_lt_two c (by omega)]
      have hseven : (7 : Byte).toNat = 7 := rfl
      omega
  have hrange : u.pos.toNat = 2 → 3 ≤ c.toNat ∧ c.toNat ≤ 70 := by
    intro h2
    rw [hlen (by omega)]
    omega
  refine ⟨withLabel (some .stored) (storedState c u), ?_⟩
  constructor
  case run =>
    rw [receive_append_singleton h.run]
    exact execRxbyte_stored h.begun hp hrange (fun h4 => by rw [h.cfg]; exact htype (by omega)) hincomplete
  case begun => exact h.begun
  case notDone => exact h.notDone
  case bufWf => exact Memory.wf_write h.bufWf hp c
  case pos =>
    rw [List.length_append, List.length_singleton, ← hpos]
    exact pos_succ_toNat hp
  case lenBefore =>
    rw [List.length_append, List.length_singleton]
    exact fun hle => h.lengthAfter_of_lt_two c (by omega)
  case lenAfter =>
    rw [List.length_append, List.length_singleton]
    exact fun hge => h.lengthAfter_of_two_le hlen (by omega)
  case cfg => exact h.cfg
  case baudok => exact h.baudok
  case junk => exact h.junk
  case stored =>
    change Memory.firstBytes (Memory.write u.buf u.pos.toNat c) _ = _
    rw [hpos, List.length_append, List.length_singleton, firstBytes_write_succ h.bufWf, h.stored]
  case beyond =>
    intro a ha
    rw [List.length_append, List.length_singleton] at ha
    exact (Memory.read_write_other u.buf c (by omega)).trans (h.beyond a (by omega))

/-- From Seeking, every beginning of a frame of a legal length and the RC type that stops short of its last byte is
stored. -/
theorem receive_take {s : State} {frame : List Byte} {len : Byte} (hwf : Memory.wf s.buf = true)
    (hb : s.begun = false) (hcap : len.toNat ≤ 70) (hmarker : frame[0]? = some s.cfg.startMarker)
    (hlen : ∀ c, frame[2]? = some c → c = len) (htype : ∀ c, frame[4]? = some c → c = s.cfg.rcType) {n : Nat}
    (hn : 1 ≤ n) (hle : n ≤ frame.length) (hlt : n < len.toNat) : ∃ u, Received s (frame.take n) len u := by
  induction n, hn using Nat.le_induction with
  | base =>
    obtain ⟨rest, rfl⟩ : ∃ rest, frame = s.cfg.startMarker :: rest := by
      cases frame with
      | nil => simp at hmarker
      | cons c rest => exact ⟨rest, by simpa using hmarker⟩
    exact received_startMarker hwf hb len
  | succ n hn ih =>
    obtain ⟨u, hu⟩ := ih (by omega) (by omega)
    have hlength : (frame.take n).length = n := by
      rw [List.length_take]
      omega
    have hget : frame[n]? = some frame[n] := List.getElem?_eq_getElem hle
    rw [List.take_succ_eq_append_getElem hle]
    refine hu.append (by omega) hcap (fun h2 => hlen _ ?_) (fun h4 => htype _ ?_)
    · rw [← hget, ← h2, hlength]
    · rw [← hget, ← h4, hlength]

/-! ## A well-formed frame (41_frame_assembler.md R93) -/

/-- The last byte of a frame whose fold is zero completes it, and it is accepted. -/
theorem Received.accept {s u : State} {bytes : List Byte} {len c : Byte} (h : Received s bytes len u)
    (hseven : 7 ≤ len.toNat) (hcap : len.toNat ≤ 70) (hlast : bytes.length + 1 = len.toNat)
    (hfold : crcFold (bytes ++ [c]) = 0x0000) :
    receive (bytes ++ [c]) s = .next (acceptFrame (storedState c u)) := by
  have hpos := h.pos
  have hafter : lengthAfter c u = len := h.lengthAfter_of_two_le (by omega) (by omega)
  have hstored : Memory.fold (bufferAfter c u) (lengthAfter c u).toNat = 0x0000 := by
    rw [hafter, ← hlast, bufferAfter, hpos, Memory.fold, firstBytes_write_succ h.bufWf, h.stored, hfold]
  rw [receive_append_singleton h.run]
  exact completedFrameWithZeroFoldIsAccepted u c h.begun (by omega) (by omega) (by rw [hafter]; omega) hstored

/-- Settles O28: all bytes but the last are stored, and the last completes a frame whose fold is zero. -/
theorem wellFormedFrameIsAccepted : Obligations.WellFormedFrameIsAccepted := by
  unfold Obligations.WellFormedFrameIsAccepted
  intro s frame hinv hb hseven hcap hmarker hlength htype hfold
  have hlen : (BitVec.ofNat 8 frame.length).toNat = frame.length := by
    rw [BitVec.toNat_ofNat]
    omega
  have htake {n : Nat} (hn : 1 ≤ n) (hlt : n < frame.length) :
      ∃ u, Received s (frame.take n) (BitVec.ofNat 8 frame.length) u :=
    receive_take hinv.bufWf hb (by omega) hmarker (by simp [hlength]) (by simp [htype]) hn hlt.le (by omega)
  refine ⟨?accepted, fun n hn hlt => ?before⟩
  case before =>
    obtain ⟨u, hu⟩ := htake hn hlt
    exact ⟨u, hu.run, hu.notDone, hu.begun⟩
  case accepted =>
    obtain ⟨u, hu⟩ := htake (n := frame.length - 1) (by omega) (by omega)
    have hlast : frame.length - 1 < frame.length := by omega
    have hsplit : frame.take (frame.length - 1) ++ [frame[frame.length - 1]] = frame := by
      rw [← List.take_succ_eq_append_getElem hlast, List.take_of_length_le (by omega)]
    have htakeLength : (frame.take (frame.length - 1)).length + 1 = frame.length := by
      rw [List.length_take]
      omega
    have hrun := hu.accept (c := frame[frame.length - 1]) (by omega) (by omega) (by omega) (by rw [hsplit, hfold])
    have hpos := hu.pos
    have hbytes := firstBytes_write_succ hu.bufWf u.pos.toNat frame[frame.length - 1]
    rw [hpos, hu.stored, htakeLength, hsplit, ← hpos] at hbytes
    rw [hsplit] at hrun
    refine ⟨_, hrun, rfl, rfl, rfl, rfl, ?_, hu.junk, hbytes, fun a ha => ?_⟩
    · change (lengthAfter _ u).toNat = _
      rw [hu.lengthAfter_of_two_le (by omega) (by omega), hlen]
    · exact (Memory.read_write_other u.buf _ (by omega)).trans (hu.beyond a (by omega))

/-! ## A frame of another type (95_test_vectors.md S6) -/

/-- Settles O29: four bytes are stored, the type filter drops the fifth, and the bytes after it are junk up to the
next start marker. -/
theorem frameOfAnotherTypeIsDropped : Obligations.FrameOfAnotherTypeIsDropped := by
  unfold Obligations.FrameOfAnotherTypeIsDropped
  intro s b1 b3 len ty rest hinv hb hfive hcap hty hrest
  have htake {n : Nat} (hn : 1 ≤ n) (hle : n ≤ 4) :
      ∃ u, Received s ([s.cfg.startMarker, b1, len, b3].take n) len u :=
    receive_take hinv.bufWf hb hcap rfl (by simp) (by simp) hn hle (by omega)
  obtain ⟨u, hu⟩ := htake (n := 4) (by decide) le_rfl
  have hdrop : receive [s.cfg.startMarker, b1, len, b3, ty] s = .next (reject .packetType (storedState ty u)) :=
    (receive_append_singleton hu.run ty).trans (execRxbyte_wrongType hu.begun hu.pos (by rwa [hu.cfg]))
  have hjunk : ∀ c ∈ rest, c ≠ (reject .packetType (storedState ty u)).cfg.startMarker := by
    intro c hc heq
    have hcfg : (reject .packetType (storedState ty u)).cfg = s.cfg := hu.cfg
    rw [heq, hcfg] at hc
    exact hrest hc
  obtain ⟨v, hrun, hframe, hcount⟩ := receive_junk rest (reject_begun .packetType (storedState ty u)) hjunk
  have hvb : v.begun = false := by rw [hframe]; rfl
  have hvcfg : v.cfg = s.cfg := by rw [hframe]; exact hu.cfg
  refine ⟨fun n hn hle => ?stored, ?dropped, v, ?after⟩
  case stored =>
    obtain ⟨w, hw⟩ := htake hn hle
    exact ⟨w, hw.run, hw.begun, hw.notDone⟩
  case dropped => exact ⟨_, hdrop, rfl, hu.notDone, hu.baudok, hu.junk, rfl⟩
  case after =>
    have hmarker := exec_startMarker hvb
    rw [hvcfg] at hmarker
    refine ⟨_, ?_, hvb, ?_, ?_, ?_, hmarker, rfl, rfl, rfl⟩
    · rw [receive_append, hdrop, andThen_next, hrun]
    · rw [hframe]; exact hu.notDone
    · rw [hframe]; exact hu.baudok
    · rw [hcount, ← hu.junk]; rfl

/-! ## Frames below the minimum (41_frame_assembler.md R88) -/

/-- Settles O26: the 6-byte frame is run; a 3-byte frame's fold is checked over its free byte; a 4-byte frame's
register has a high byte before the last byte, whatever the free byte is. -/
theorem framesBelowTheMinimumWithTheDefaultMarker : Obligations.FramesBelowTheMinimumWithTheDefaultMarker := by
  unfold Obligations.FramesBelowTheMinimumWithTheDefaultMarker
  have hthree : ∀ x : Byte, crcFold [0x3E, x, 0x03] ≠ 0x0000 := by decide
  have hhigh : ∀ x : Byte, (crcFold [0x3E, x, 0x04]).extractLsb' 8 8 ≠ 0 := by decide
  exact ⟨⟨_, rfl, by decide⟩, hthree, fun x y => crcFold_append_singleton_ne_zero (hhigh x) y⟩

end Sys2Proof.Machine
